-- ==== Sys2Proof/Word.lean ====
section
/-! DEFINITION. The value formats of the block: packed pixels, channels, component triples, byte pairs, the operation
word and the result (spec/30_encoding.md rules R34 to R37 and R40, spec/00_scope.md rule R6). -/

namespace Sys2Proof

/-- A byte, 8 bits (R6). -/
abbrev Byte := BitVec 8

/-- A packed pixel, 16 bits, as a value (R34, R35). -/
abbrev Pixel := BitVec 16

/-- Red or blue of a packed pixel, 5 bits, linear (R36). -/
abbrev Channel5 := BitVec 5

/-- Green of a packed pixel, 6 bits, linear (R36). -/
abbrev Channel6 := BitVec 6

/-- An 8-bit linear code (R36). -/
abbrev Channel8 := BitVec 8

/-- An 8-bit sRGB code: the same bits as a `Channel8`, another meaning, so another name (R36). -/
abbrev Channel8s := BitVec 8

/-- The operation word `opw` of the wrapper, 32 bits (R40, R45). -/
abbrev OpWord := BitVec 32

/-- The operand field `A` of the operation word, 24 bits (R40). -/
abbrev Operand := BitVec 24

/-- The result `y` of the wrapper, 24 bits (R40). -/
abbrev Result := BitVec 24

/-- Which 5-bit field of a pixel unit U0 takes: `sel_hi` = 0 the low field, 1 the high field (R38, D11). -/
inductive FieldSel where
  | lo
  | hi
  deriving DecidableEq, Repr

/-- Which of red and blue holds the high 5-bit field: `order` = 0 RGB565, 1 BGR565 (R38, D12). -/
inductive ComponentOrder where
  | rgb565
  | bgr565
  deriving DecidableEq, Repr

/-- Byte order of a byte pair, a parameter of the compositions only: 0 little-endian, 1 big-endian (R7, D12). -/
inductive Endianness where
  | little
  | big
  deriving DecidableEq, Repr

/-- The narrow channels of one pixel, named by colour and not by position (R72, C9). -/
structure FieldTriple where
  r5 : Channel5
  g6 : Channel6
  b5 : Channel5
  deriving DecidableEq, Repr

/-- An RGB888 triple of linear codes, ordered (R, G, B) (R37). -/
structure Rgb888 where
  r : Channel8
  g : Channel8
  b : Channel8
  deriving DecidableEq, Repr

/-- An sRGB888 triple of sRGB codes, ordered (R, G, B) (R37). -/
structure Srgb888 where
  r : Channel8s
  g : Channel8s
  b : Channel8s
  deriving DecidableEq, Repr

/-- A two-byte buffer: `b0` is the first byte, `b1` the second (R24). -/
structure BytePair where
  b0 : Byte
  b1 : Byte
  deriving DecidableEq, Repr

end Sys2Proof
end

