-- ==== Sys2Proof/Syntax.lean ====
section
/-! DEFINITION. The operations of the block: a closed enumeration of eleven constructors, one per unit, each carrying
the operands of the unit's input ports (spec/46_absent_operation_classes.md rule R116; ports of
spec/30_encoding.md rule R38). -/

namespace Sys2Proof

/-- One operation of the block, one constructor per row of spec/opcode_table.json. Each operand has exactly its
port's width, so every term is a legal operation (R36, R39). -/
inductive Instr where
  /-- U0 (R70): `sel_hi`, `pix`. -/
  | rgb565UnpackChannel5 (sel : FieldSel) (pix : Pixel)
  /-- U1 (R71): `pix`. -/
  | rgb565UnpackChannel6 (pix : Pixel)
  /-- U2 (R51): `c5`. -/
  | channel5ToChannel8Linear (c5 : Channel5)
  /-- U3 (R52): `c6`. -/
  | channel6ToChannel8Linear (c6 : Channel6)
  /-- U4 (R53): `c8`. -/
  | channel8ToChannel5Linear (c8 : Channel8)
  /-- U5 (R54): `c8`. -/
  | channel8ToChannel6Linear (c8 : Channel8)
  /-- U6 (R62): `s8`. -/
  | srgbGammaExpandLut (s8 : Channel8s)
  /-- U7 (R63): `l8`. -/
  | srgbGammaCompressLut (l8 : Channel8)
  /-- U8 (R72): `order`, `pix`. -/
  | rgb565PixelUnpack (order : ComponentOrder) (pix : Pixel)
  /-- U9 (R73): `order`, `r5`, `g6`, `b5`. -/
  | rgb565PixelPack (order : ComponentOrder) (r5 : Channel5) (g6 : Channel6) (b5 : Channel5)
  /-- U10 (R80): `d`. -/
  | endiannessSwap16b (d : BitVec 16)
  deriving DecidableEq, Repr

/-- The mnemonic of an operation, as the operation map spells it (R41). -/
def Instr.mnemonic : Instr → String
  | .rgb565UnpackChannel5 _ _ => "rgb565_unpack_channel5"
  | .rgb565UnpackChannel6 _ => "rgb565_unpack_channel6"
  | .channel5ToChannel8Linear _ => "channel5_to_channel8_linear"
  | .channel6ToChannel8Linear _ => "channel6_to_channel8_linear"
  | .channel8ToChannel5Linear _ => "channel8_to_channel5_linear"
  | .channel8ToChannel6Linear _ => "channel8_to_channel6_linear"
  | .srgbGammaExpandLut _ => "srgb_gamma_expand_lut"
  | .srgbGammaCompressLut _ => "srgb_gamma_compress_lut"
  | .rgb565PixelUnpack _ _ => "rgb565_pixel_unpack"
  | .rgb565PixelPack _ _ _ _ => "rgb565_pixel_pack"
  | .endiannessSwap16b _ => "endianness_swap_16b"

end Sys2Proof
end

