-- ==== Sys2Proof/WellFormed.lean ====
section
/-! DEFINITION. Which operation words are well formed: the operation map of spec/30_encoding.md rule R41, row by row,
and the test `(opw AND mask) = match` that admits a word. An `Instr` needs no further check, since each operand is as
wide as its port (R36, R38, D3); what can be ill formed is a word, here, and a line of a host's program
(Machine/Program.lean). The decoder does not use this table: it follows the procedure of R43, and that the two agree
is a claim. -/

namespace Sys2Proof

/-- A row of the operation map (R41). -/
structure OpRow where
  mnemonic  : String
  matchBits : OpWord
  mask      : OpWord
  deriving DecidableEq, Repr

/-- The operation map (R41). -/
def opTable : List OpRow :=
  [ ⟨"rgb565_unpack_channel5",      0x00000000#32, 0xF7FF0000#32⟩,
    ⟨"rgb565_unpack_channel6",      0x10000000#32, 0xFFFF0000#32⟩,
    ⟨"channel5_to_channel8_linear", 0x20000000#32, 0xFFFFFFE0#32⟩,
    ⟨"channel6_to_channel8_linear", 0x30000000#32, 0xFFFFFFC0#32⟩,
    ⟨"channel8_to_channel5_linear", 0x40000000#32, 0xFFFFFF00#32⟩,
    ⟨"channel8_to_channel6_linear", 0x50000000#32, 0xFFFFFF00#32⟩,
    ⟨"srgb_gamma_expand_lut",       0x60000000#32, 0xFFFFFF00#32⟩,
    ⟨"srgb_gamma_compress_lut",     0x70000000#32, 0xFFFFFF00#32⟩,
    ⟨"rgb565_pixel_unpack",         0x80000000#32, 0xF7FF0000#32⟩,
    ⟨"rgb565_pixel_pack",           0x90000000#32, 0xF7E0C0E0#32⟩,
    ⟨"endianness_swap_16b",         0xA0000000#32, 0xFFFF0000#32⟩ ]

/-- A word selects a row if and only if `(opw AND mask) = match` (R41). -/
def OpRow.selects (r : OpRow) (w : OpWord) : Bool :=
  w &&& r.mask == r.matchBits

/-- A word is admitted if it selects some row; otherwise it is reserved (R41, R44). -/
def OpWord.admitted (w : OpWord) : Bool :=
  opTable.any (·.selects w)

end Sys2Proof
end

