-- ==== Sys2Proof/Decode.lean ====
section
/-! DEFINITION. The operation word: its four fields (spec/30_encoding.md rule R40), the decoding procedure, total on
all 2^32 words (R43), with the reasons for which a word is reserved (R44), and the encoder (R40 to R42, R47). -/

namespace Sys2Proof

/-! ### The fields of the word (R40) -/

/-- `OP = opw[31:28]` (R40). -/
def OpWord.opField (w : OpWord) : BitVec 4 := w.extractLsb' 28 4

/-- `M = opw[27]` (R40). -/
def OpWord.modeField (w : OpWord) : BitVec 1 := w.extractLsb' 27 1

/-- `Z = opw[26:24]` (R40). -/
def OpWord.zeroField (w : OpWord) : BitVec 3 := w.extractLsb' 24 3

/-- `A = opw[23:0]` (R40). -/
def OpWord.operandField (w : OpWord) : Operand := w.extractLsb' 0 24

/-- `opw = {OP, M, Z, A}` (R40). -/
def OpWord.assemble (op : BitVec 4) (m : BitVec 1) (z : BitVec 3) (a : Operand) : OpWord :=
  op ++ m ++ z ++ a

/-! ### The codes of the modes (R7, R38, D11, D12) -/

/-- `sel_hi`: 0 the low field, 1 the high field (D11). -/
def FieldSel.ofBit (m : BitVec 1) : FieldSel := if m = 1#1 then .hi else .lo

/-- The code of a field selector (D11). -/
def FieldSel.toBit : FieldSel → BitVec 1
  | .lo => 0#1
  | .hi => 1#1

/-- `order`: 0 RGB565, 1 BGR565 (D12). -/
def ComponentOrder.ofBit (m : BitVec 1) : ComponentOrder := if m = 1#1 then .bgr565 else .rgb565

/-- The code of a component order (D12). -/
def ComponentOrder.toBit : ComponentOrder → BitVec 1
  | .rgb565 => 0#1
  | .bgr565 => 1#1

/-- `endianness`: 0 little-endian, 1 big-endian (R7, D12). No unit has this input (R26) and no field of the word
carries it: it is the code of a parameter of the compositions. -/
def Endianness.ofBit (m : BitVec 1) : Endianness := if m = 1#1 then .big else .little

/-- The code of an endianness (R7, D12). -/
def Endianness.toBit : Endianness → BitVec 1
  | .little => 0#1
  | .big => 1#1

/-! ### Reserved words (R43, R44) -/

/-- Why a word is reserved: the checks of R43, steps 2 to 5. -/
inductive ReservedReason where
  /-- Step 2: `Z` is not zero. -/
  | zNotZero
  /-- Step 3: `OP` is 11 to 15. -/
  | noUnit
  /-- Step 4: `M` is 1 for a unit without a mode. -/
  | modeNotAllowed
  /-- Step 5: a must-be-zero bit of `A` is 1. -/
  | spareOperandBit
  deriving DecidableEq, Repr

/-- The units whose row of R41 says "M must be 0". -/
def modeMustBeZero (op : BitVec 4) : Bool :=
  match op.toNat with
  | 1 | 2 | 3 | 4 | 5 | 6 | 7 | 10 => true
  | _ => false

/-- Some must-be-zero bit of `A` is 1, by the third column of R42. -/
def spareBitSet (op : BitVec 4) (a : Operand) : Bool :=
  match op.toNat with
  | 0 | 1 | 8 | 10 => a.extractLsb' 16 8 != 0#8
  | 2 => a.extractLsb' 5 19 != 0#19
  | 3 => a.extractLsb' 6 18 != 0#18
  | 4 | 5 | 6 | 7 => a.extractLsb' 8 16 != 0#16
  | 9 => a.extractLsb' 21 3 != 0#3 || a.extractLsb' 14 2 != 0#2 || a.extractLsb' 5 3 != 0#3
  | _ => false

/-- Every check of R43 that a word with these fields fails. The order of the checks cannot be observed (R125), so all
that fail are listed. -/
def reservedBy (op : BitVec 4) (m : BitVec 1) (z : BitVec 3) (a : Operand) : List ReservedReason :=
  (if z = 0#3 then [] else [.zNotZero]) ++
  (if op.toNat < 11 then [] else [.noUnit]) ++
  (if modeMustBeZero op = true ∧ m = 1#1 then [.modeNotAllowed] else []) ++
  (if spareBitSet op a = true then [.spareOperandBit] else [])

/-- Every reason for which a word is reserved; none for an admitted word (R43). -/
def OpWord.reservedReasons (w : OpWord) : List ReservedReason :=
  reservedBy w.opField w.modeField w.zeroField w.operandField

/-! ### Decoding (R43) -/

/-- The unit of `OP` with its operand lanes (second column of R42). -/
def selectUnit (op : BitVec 4) (m : BitVec 1) (a : Operand) : Option Instr :=
  match op.toNat with
  | 0 => some (.rgb565UnpackChannel5 (.ofBit m) (a.extractLsb' 0 16))
  | 1 => some (.rgb565UnpackChannel6 (a.extractLsb' 0 16))
  | 2 => some (.channel5ToChannel8Linear (a.extractLsb' 0 5))
  | 3 => some (.channel6ToChannel8Linear (a.extractLsb' 0 6))
  | 4 => some (.channel8ToChannel5Linear (a.extractLsb' 0 8))
  | 5 => some (.channel8ToChannel6Linear (a.extractLsb' 0 8))
  | 6 => some (.srgbGammaExpandLut (a.extractLsb' 0 8))
  | 7 => some (.srgbGammaCompressLut (a.extractLsb' 0 8))
  | 8 => some (.rgb565PixelUnpack (.ofBit m) (a.extractLsb' 0 16))
  | 9 => some (.rgb565PixelPack (.ofBit m) (a.extractLsb' 16 5) (a.extractLsb' 8 6) (a.extractLsb' 0 5))
  | 10 => some (.endiannessSwap16b (a.extractLsb' 0 16))
  | _ => none

/-- Decoding from the four fields: a reserved word gives no operation, any other its unit with its operands (R43). -/
def decodeFields (op : BitVec 4) (m : BitVec 1) (z : BitVec 3) (a : Operand) : Option Instr :=
  if reservedBy op m z a = [] then selectUnit op m a else none

/-- The decoding procedure, total on all 2^32 words; `none` is a reserved word (R43, R44). -/
def decode (w : OpWord) : Option Instr :=
  decodeFields w.opField w.modeField w.zeroField w.operandField

/-! ### Encoding (R40 to R42, R47) -/

/-- `OP`, the unit number of an operation (R2, R41). -/
def Instr.opCode : Instr → BitVec 4
  | .rgb565UnpackChannel5 _ _ => 0#4
  | .rgb565UnpackChannel6 _ => 1#4
  | .channel5ToChannel8Linear _ => 2#4
  | .channel6ToChannel8Linear _ => 3#4
  | .channel8ToChannel5Linear _ => 4#4
  | .channel8ToChannel6Linear _ => 5#4
  | .srgbGammaExpandLut _ => 6#4
  | .srgbGammaCompressLut _ => 7#4
  | .rgb565PixelUnpack _ _ => 8#4
  | .rgb565PixelPack _ _ _ _ => 9#4
  | .endiannessSwap16b _ => 10#4

/-- `M`: the mode of U0, U8 and U9, and 0 for every other unit (R41, R47). -/
def Instr.modeBit : Instr → BitVec 1
  | .rgb565UnpackChannel5 sel _ => sel.toBit
  | .rgb565PixelUnpack order _ => order.toBit
  | .rgb565PixelPack order _ _ _ => order.toBit
  | .rgb565UnpackChannel6 _ => 0#1
  | .channel5ToChannel8Linear _ => 0#1
  | .channel6ToChannel8Linear _ => 0#1
  | .channel8ToChannel5Linear _ => 0#1
  | .channel8ToChannel6Linear _ => 0#1
  | .srgbGammaExpandLut _ => 0#1
  | .srgbGammaCompressLut _ => 0#1
  | .endiannessSwap16b _ => 0#1

/-- `A`: the operand lanes of R42 with every other bit 0. -/
def Instr.operandBits : Instr → Operand
  | .rgb565UnpackChannel5 _ pix => 0#8 ++ pix
  | .rgb565UnpackChannel6 pix => 0#8 ++ pix
  | .channel5ToChannel8Linear c5 => 0#19 ++ c5
  | .channel6ToChannel8Linear c6 => 0#18 ++ c6
  | .channel8ToChannel5Linear c8 => 0#16 ++ c8
  | .channel8ToChannel6Linear c8 => 0#16 ++ c8
  | .srgbGammaExpandLut s8 => 0#16 ++ s8
  | .srgbGammaCompressLut l8 => 0#16 ++ l8
  | .rgb565PixelUnpack _ pix => 0#8 ++ pix
  | .rgb565PixelPack _ r5 g6 b5 => 0#3 ++ r5 ++ 0#2 ++ g6 ++ 0#3 ++ b5
  | .endiannessSwap16b d => 0#8 ++ d

/-- The operation word of an operation, `Z = 0` (R40 to R42, R47). -/
def encode (i : Instr) : OpWord :=
  .assemble i.opCode i.modeBit 0#3 i.operandBits

/-- The host's form of the decoder: the operation whose `nbits` low bits are `w` and whose other bits are 0. The block
has one word of 32 bits, numbered as the table numbers it, with no byte order of its own (R40, R45); a `w` that does
not fit `nbits` bits, or an `nbits` above 32, is no word. -/
def decodeTableWord (nbits w : Nat) : Option Instr :=
  if nbits ≤ 32 ∧ w < 2 ^ nbits then decode (BitVec.ofNat 32 w) else none

end Sys2Proof
end

