-- ==== Sys2Proof/Machine/State.lean ====
section
/-! DEFINITION. The state of the machine and the reasons a step can stop.

The block has no mutable state (spec/10_state.md rule R10): no register, program counter, flag, control register, data
memory or mode (R11 to R15, R17, spec/20_memory.md rule R21). What a step needs are the two ports of the wrapper
(spec/30_encoding.md rule R40). The two constant tables are configuration, not state (R16); they stand in
Machine/Tables.lean. -/

namespace Sys2Proof.Machine

/-- The two ports of the wrapper (R40): the 32-bit input the host drives and the 24-bit output of the last evaluation.
DESIGN CHOICE, log 1 and 2. -/
structure State where
  opw : OpWord
  y   : Result
  deriving DecidableEq, Repr

/-- The exception causes: none. "The set of exception causes of a model is empty" (spec/60_exceptions.md rule R120), so
no constructor and nothing that raises one; safe and unsafe do not arise. -/
inductive Fault where
  deriving DecidableEq, Repr

/-- Why a step gives no next state. -/
inductive Refusal where
  /-- An instruction that has no meaning yet, by its mnemonic; raised by an arm of `exec` only, and by none in this
  model. Safe. -/
  | notModelled (mnemonic : String)
  /-- The word on the input port is reserved (R43, R44): the spec does not say what `y` is, and a model refuses the
  word. Raised by `step` when `decode` gives no operation. Safe: nothing can be proved of a value. Log 6. -/
  | reservedOperationWord
  deriving DecidableEq, Repr

/-- The block at power-up. It has no reset and no state a reset could set (R19, R140). The input port is whatever the
host drives, here the word 0: DESIGN CHOICE, log 3. The output is the function of the input at that time (R142), which
for the word 0 is 0: DEDUCED, log 3. -/
def State.reset : State := { opw := 0#32, y := 0#24 }

end Sys2Proof.Machine
end

