-- ==== Sys2Proof/Machine/Operands.lean ====
section
/-! DEFINITION. Operand and result forms: the result lanes of `y` (spec/30_encoding.md rule R42), the 24-bit carriage
of triples (R37) and the two readings of a byte pair (spec/20_memory.md rules R24 and R25). The operand lanes of the
word stand in Decode.lean. -/

namespace Sys2Proof.Machine

/-! ### Result lanes of `y` (R42) -/

/-- A one-output unit: the output at the bottom of `y`, zero-extended (R42). -/
def resultLow {n : Nat} (v : BitVec n) : Result := v.setWidth 24

/-- U8: red in byte 2, green in byte 1, blue in byte 0, each at the bottom of its lane (R42). -/
def resultTriple (t : FieldTriple) : Result :=
  0#3 ++ t.r5 ++ 0#2 ++ t.g6 ++ 0#3 ++ t.b5

/-- The outputs of U8 read back from its lanes `y[20:16]`, `y[13:8]`, `y[4:0]` (R42). -/
def tripleOfResult (y : Result) : FieldTriple :=
  { r5 := y.extractLsb' 16 5, g6 := y.extractLsb' 8 6, b5 := y.extractLsb' 0 5 }

/-! ### Component triples on 24 bits (R37, D20) -/

/-- `{R, G, B}` of an RGB888 triple (R37). -/
def rgb888Bits (t : Rgb888) : BitVec 24 := t.r ++ t.g ++ t.b

/-- `{R, G, B}` of an sRGB888 triple (R37). -/
def srgb888Bits (t : Srgb888) : BitVec 24 := t.r ++ t.g ++ t.b

/-! ### Byte pairs (spec/20_memory.md rules R24, R25) -/

/-- `value_le(b0, b1) = {b1, b0}` (R24). -/
def valueLe (p : BytePair) : BitVec 16 := p.b1 ++ p.b0

/-- `value_be(b0, b1) = {b0, b1}` (R24). -/
def valueBe (p : BytePair) : BitVec 16 := p.b0 ++ p.b1

/-- `bytes_le(w) = (w[7:0], w[15:8])` (R24). -/
def bytesLe (w : BitVec 16) : BytePair := { b0 := w.extractLsb' 0 8, b1 := w.extractLsb' 8 8 }

/-- `bytes_be(w) = (w[15:8], w[7:0])` (R24). -/
def bytesBe (w : BitVec 16) : BytePair := { b0 := w.extractLsb' 8 8, b1 := w.extractLsb' 0 8 }

/-- A byte pair on a 16-bit bus of the block: the first byte on bits 7 to 0 (R25, D10). -/
def busValue (p : BytePair) : BitVec 16 := valueLe p

/-- The byte pair a 16-bit bus value carries (R25). -/
def busBytes (v : BitVec 16) : BytePair := bytesLe v

end Sys2Proof.Machine
end

