-- ==== Sys2Proof/Config.lean ====
section
/-! DEFINITION. The parameters the document leaves to the implementation (spec/00_scope.md rule R7) with the values
the spec takes. No output of any of the eleven units depends on one of them; what depends on `srgbPath` are the
compositions of spec/44_composite_operations.md alone. -/

namespace Sys2Proof

/-- `ROUND_MODE`: the two tie rules the document names (R7, D6, I1). -/
inductive RoundMode where
  | halfUp
  | halfToEven
  deriving DecidableEq, Repr

/-- `SRGB_PATH`: one or two roundings in the sRGB channel compositions (R7, D8, I7). -/
inductive SrgbPath where
  | twoStage
  | singleRound
  deriving DecidableEq, Repr

/-- `LUT_STRATEGY`: one build-time switch for each of the thirteen tables the document enumerates, in the numbering
of spec/20_memory.md rule R23; `true` selects the table, `false` the arithmetic. -/
structure LutStrategy where
  swapComponents : Bool
  widen5         : Bool
  widen6         : Bool
  widen5Srgb     : Bool
  widen6Srgb     : Bool
  pixelTo888     : Bool
  pixelToS888    : Bool
  narrow5        : Bool
  narrow6        : Bool
  narrow5Srgb    : Bool
  narrow6Srgb    : Bool
  l888ToPixel    : Bool
  s888ToPixel    : Bool
  deriving DecidableEq, Repr

/-- Round half up, the value the spec takes (R7, D6). -/
def Config.roundMode : RoundMode := .halfUp

/-- Two-stage, the value the spec takes for this block (R7, D8). -/
def Config.srgbPath : SrgbPath := .twoStage

end Sys2Proof
end

