-- ==== Sys2Proof/Machine/Ops.lean ====
section
/-! DEFINITION. The shared operations: driving the wrapper's two ports, reading a constant table (`MemRead`), and
rounded scaling. Taking an exception, and returning from one, have no operation here because the block raises nothing
and has nothing to return from (spec/60_exceptions.md rules R120, R126, R127). -/

namespace Sys2Proof.Machine

/-! ### The ports (spec/30_encoding.md rule R40) -/

/-- The unit's outputs appear on `y`; the block never drives its own input (R38, R40). -/
def State.driveY (s : State) (y : Result) : State := { s with y := y }

/-- The host drives the input port with `w` (R40). The output is taken after the evaluation, log 2. -/
def State.present (s : State) (w : OpWord) : State := { s with opw := w }

/-! ### The read-only spaces (spec/20_memory.md rules R20 to R22) -/

/-- The two address spaces of the block (R20). -/
inductive Space where
  | gexp
  | gcmp
  deriving DecidableEq, Repr

/-- The 256 entries of a space, by index (R20). -/
def Space.contents : Space → List Nat
  | .gexp => gexpTable
  | .gcmp => gcmpTable

theorem Space.contents_length (sp : Space) : sp.contents.length = 256 := by
  cases sp
  · exact gexpTable_length
  · exact gcmpTable_length

/-- Every index an 8-bit operand can form is inside the space (R20). -/
theorem Space.index_lt (sp : Space) (a : BitVec 8) : a.toNat < sp.contents.length := by
  rw [sp.contents_length]
  exact a.isLt

/-- `MemRead(space, a, 1)`: the entry at index `a`, no side effect (R8, R22). -/
def memRead (sp : Space) (a : BitVec 8) : Byte :=
  BitVec.ofNat 8 (sp.contents[a.toNat]'(sp.index_lt a))

/-- Memory as address and byte pairs. -/
abbrev Memory := List Host.Cell

/-- The canonical form: addresses strictly rising. An unlisted address does not exist (R20, R21), so there is no value
an entry could repeat. -/
def Memory.wf (m : Memory) : Bool := decide (m.Pairwise (fun c d => c.1 < d.1))

/-- The byte at an address, `none` where the space has no such address (R20). -/
def Memory.read (m : Memory) (a : Nat) : Option Byte := (m.find? (·.1 == a)).map (·.2)

/-- A space as memory: indices 0 to 255 (R20). -/
def Space.cells (sp : Space) : Memory :=
  (List.range 256).zip (sp.contents.map (BitVec.ofNat 8))

/-! ### Rounded division (spec/00_scope.md rules R7 and R8) -/

/-- `round_half_up(p, q) = floor((2 * p + q) / (2 * q))` (R8). -/
def roundHalfUp (p q : Nat) : Nat := (2 * p + q) / (2 * q)

/-- The other tie rule the document names: to the nearest integer, ties to the even one (R7, D6). -/
def roundHalfToEven (p q : Nat) : Nat :=
  if 2 * (p % q) < q then p / q
  else if q < 2 * (p % q) then p / q + 1
  else if p / q % 2 = 0 then p / q
  else p / q + 1

/-- `p / q` rounded to the nearest integer under a given `ROUND_MODE` (R7). -/
def roundDiv : RoundMode → Nat → Nat → Nat
  | .halfUp => roundHalfUp
  | .halfToEven => roundHalfToEven

/-- Proportional scaling of `c` from full scale `maxIn` to full scale `maxOut` (spec/40_channel_linear.md rule R50),
in unbounded naturals (R56). -/
def scale (mode : RoundMode) (maxIn maxOut c : Nat) : Nat :=
  roundDiv mode (c * maxOut) maxIn

end Sys2Proof.Machine
end

