-- ==== Sys2Proof/Machine/ByteSwap.lean ====
section
/-! DEFINITION. The byte swap U10 (spec/43_endianness_swap.md). -/

namespace Sys2Proof.Machine

/-- U10: `{d[7:0], d[15:8]}` (R80). -/
def endiannessSwap (d : BitVec 16) : BitVec 16 := d.extractLsb' 0 8 ++ d.extractLsb' 8 8

/-- `endianness_swap_16b`: `y[15:0] = q` (R80, R42). -/
def execEndiannessSwap16b (d : BitVec 16) (s : State) : Host.Outcome State Fault Refusal :=
  .next (s.driveY (resultLow (endiannessSwap d)))

end Sys2Proof.Machine
end

