-- ==== Sys2Proof/Machine/ChannelLinear.lean ====
section
/-! DEFINITION. The linear channel scalers U2 to U5 (spec/40_channel_linear.md). -/

namespace Sys2Proof.Machine

/-- U2: `round_half_up(255 * c5, 31)` (R51). -/
def widen5 (c5 : Channel5) : Channel8 := BitVec.ofNat 8 (scale Config.roundMode 31 255 c5.toNat)

/-- U3: `round_half_up(255 * c6, 63)` (R52). -/
def widen6 (c6 : Channel6) : Channel8 := BitVec.ofNat 8 (scale Config.roundMode 63 255 c6.toNat)

/-- U4: `round_half_up(31 * c8, 255)` (R53). -/
def narrow5 (c8 : Channel8) : Channel5 := BitVec.ofNat 5 (scale Config.roundMode 255 31 c8.toNat)

/-- U5: `round_half_up(63 * c8, 255)` (R54). -/
def narrow6 (c8 : Channel8) : Channel6 := BitVec.ofNat 6 (scale Config.roundMode 255 63 c8.toNat)

/-- `channel5_to_channel8_linear`: `y[7:0] = c8` (R51, R42). -/
def execChannel5ToChannel8Linear (c5 : Channel5) (s : State) : Host.Outcome State Fault Refusal :=
  .next (s.driveY (resultLow (widen5 c5)))

/-- `channel6_to_channel8_linear`: `y[7:0] = c8` (R52, R42). -/
def execChannel6ToChannel8Linear (c6 : Channel6) (s : State) : Host.Outcome State Fault Refusal :=
  .next (s.driveY (resultLow (widen6 c6)))

/-- `channel8_to_channel5_linear`: `y[4:0] = c5` (R53, R42). -/
def execChannel8ToChannel5Linear (c8 : Channel8) (s : State) : Host.Outcome State Fault Refusal :=
  .next (s.driveY (resultLow (narrow5 c8)))

/-- `channel8_to_channel6_linear`: `y[5:0] = c6` (R54, R42). -/
def execChannel8ToChannel6Linear (c8 : Channel8) (s : State) : Host.Outcome State Fault Refusal :=
  .next (s.driveY (resultLow (narrow6 c8)))

end Sys2Proof.Machine
end

