-- ==== Sys2Proof/Machine/PixelField.lean ====
section
/-! DEFINITION. The pixel field units U0, U1, U8 and U9 (spec/42_pixel_codec.md). -/

namespace Sys2Proof.Machine

/-- U0: `pix[15:11]` or `pix[4:0]` (R70). -/
def unpackChannel5 (sel : FieldSel) (pix : Pixel) : Channel5 :=
  match sel with
  | .hi => pix.extractLsb' 11 5
  | .lo => pix.extractLsb' 0 5

/-- U1: `pix[10:5]` (R71). -/
def unpackChannel6 (pix : Pixel) : Channel6 := pix.extractLsb' 5 6

/-- U8: the three fields named by colour; red is the high field in RGB565 and the low field in BGR565 (R72). -/
def pixelUnpack (order : ComponentOrder) (pix : Pixel) : FieldTriple :=
  match order with
  | .rgb565 => { r5 := pix.extractLsb' 11 5, g6 := pix.extractLsb' 5 6, b5 := pix.extractLsb' 0 5 }
  | .bgr565 => { r5 := pix.extractLsb' 0 5, g6 := pix.extractLsb' 5 6, b5 := pix.extractLsb' 11 5 }

/-- U9: `{r5, g6, b5}` in RGB565, `{b5, g6, r5}` in BGR565 (R73). -/
def pixelPack (order : ComponentOrder) (t : FieldTriple) : Pixel :=
  match order with
  | .rgb565 => t.r5 ++ t.g6 ++ t.b5
  | .bgr565 => t.b5 ++ t.g6 ++ t.r5

/-- `rgb565_unpack_channel5`: `y[4:0] = c5` (R70, R42). -/
def execRgb565UnpackChannel5 (sel : FieldSel) (pix : Pixel) (s : State) : Host.Outcome State Fault Refusal :=
  .next (s.driveY (resultLow (unpackChannel5 sel pix)))

/-- `rgb565_unpack_channel6`: `y[5:0] = c6` (R71, R42). -/
def execRgb565UnpackChannel6 (pix : Pixel) (s : State) : Host.Outcome State Fault Refusal :=
  .next (s.driveY (resultLow (unpackChannel6 pix)))

/-- `rgb565_pixel_unpack`: `y[20:16] = r5`, `y[13:8] = g6`, `y[4:0] = b5` (R72, R42). -/
def execRgb565PixelUnpack (order : ComponentOrder) (pix : Pixel) (s : State) : Host.Outcome State Fault Refusal :=
  .next (s.driveY (resultTriple (pixelUnpack order pix)))

/-- `rgb565_pixel_pack`: `y[15:0] = pix` (R73, R42). -/
def execRgb565PixelPack (order : ComponentOrder) (r5 : Channel5) (g6 : Channel6) (b5 : Channel5) (s : State) :
    Host.Outcome State Fault Refusal :=
  .next (s.driveY (resultLow (pixelPack order { r5 := r5, g6 := g6, b5 := b5 })))

end Sys2Proof.Machine
end

