-- ==== Sys2Proof/Machine/SrgbGamma.lean ====
section
/-! DEFINITION. The gamma units U6 and U7, reads of the two constant tables (spec/41_srgb_gamma.md). The names follow
colour science: expand is sRGB to linear, compress is linear to sRGB (spec/90_conflicts.md C5). -/

namespace Sys2Proof.Machine

/-- U6: `MemRead(GEXP, s8, 1)` (R62). -/
def gammaExpand (s8 : Channel8s) : Channel8 := memRead .gexp s8

/-- U7: `MemRead(GCMP, l8, 1)` (R63). -/
def gammaCompress (l8 : Channel8) : Channel8s := memRead .gcmp l8

/-- `srgb_gamma_expand_lut`: `y[7:0] = l8` (R62, R42). -/
def execSrgbGammaExpandLut (s8 : Channel8s) (s : State) : Host.Outcome State Fault Refusal :=
  .next (s.driveY (resultLow (gammaExpand s8)))

/-- `srgb_gamma_compress_lut`: `y[7:0] = s8` (R63, R42). -/
def execSrgbGammaCompressLut (l8 : Channel8) (s : State) : Host.Outcome State Fault Refusal :=
  .next (s.driveY (resultLow (gammaCompress l8)))

end Sys2Proof.Machine
end

