-- ==== Sys2Proof/Machine/Dispatch.lean ====
section
/-! DEFINITION. One arm per operation (spec/46_absent_operation_classes.md rule R116). -/

namespace Sys2Proof.Machine

-- The unit of each operation, its outputs on `y` (R40, R42).
def exec (i : Instr) (s : State) : Host.Outcome State Fault Refusal :=
  match i with
  | .rgb565UnpackChannel5 sel pix => Sys2Proof.Machine.execRgb565UnpackChannel5 sel pix s
  | .rgb565UnpackChannel6 pix => Sys2Proof.Machine.execRgb565UnpackChannel6 pix s
  | .channel5ToChannel8Linear c5 => Sys2Proof.Machine.execChannel5ToChannel8Linear c5 s
  | .channel6ToChannel8Linear c6 => Sys2Proof.Machine.execChannel6ToChannel8Linear c6 s
  | .channel8ToChannel5Linear c8 => Sys2Proof.Machine.execChannel8ToChannel5Linear c8 s
  | .channel8ToChannel6Linear c8 => Sys2Proof.Machine.execChannel8ToChannel6Linear c8 s
  | .srgbGammaExpandLut s8 => Sys2Proof.Machine.execSrgbGammaExpandLut s8 s
  | .srgbGammaCompressLut l8 => Sys2Proof.Machine.execSrgbGammaCompressLut l8 s
  | .rgb565PixelUnpack order pix => Sys2Proof.Machine.execRgb565PixelUnpack order pix s
  | .rgb565PixelPack order r5 g6 b5 => Sys2Proof.Machine.execRgb565PixelPack order r5 g6 b5 s
  | .endiannessSwap16b d => Sys2Proof.Machine.execEndiannessSwap16b d s

end Sys2Proof.Machine
end

