-- ==== Sys2Proof/Machine/Step.lean ====
section
/-! DEFINITION. One evaluation of the wrapper (spec/30_encoding.md rules R40 and R43), and the host's placing of the
word that the next evaluation reads. -/

namespace Sys2Proof.Machine

/-- One evaluation: the word on the input port is decoded and its unit's outputs appear on `y`; a reserved word is
refused (R43, R44). The input port keeps the word the host drives, log 5. -/
def step (s : State) : Host.Outcome State Fault Refusal :=
  match decode s.opw with
  | some i => exec i s
  | none => .refused .reservedOperationWord

/-- The host drives the input port with the `nbits` low bits of `w`, the bits above them 0 (R40, log 5). Nothing else
is needed: the word is a port value and no memory location (spec/20_memory.md rule R32). -/
def State.withFetchWord (s : State) (nbits w : Nat) : State :=
  s.present (BitVec.ofNat 32 (w % 2 ^ nbits))

end Sys2Proof.Machine
end

