-- ==== Sys2Proof/Machine/Composite.lean ====
section
/-! DEFINITION. The document's API-level operations as compositions of the units (spec/44_composite_operations.md).
None is an operation of the block and none has an operation code (spec/30_encoding.md rule R48): the host performs
them by presenting operations one after another. -/

namespace Sys2Proof.Machine

theorem expand5SrgbSingleLut_length : expand5SrgbSingleLut.length = 32 := by
  simp only [expand5SrgbSingleLut, List.length_append, List.length_cons, List.length_nil]
theorem expand6SrgbSingleLut_length : expand6SrgbSingleLut.length = 64 := by
  simp only [expand6SrgbSingleLut, List.length_append, List.length_cons, List.length_nil]
theorem contract5SrgbSingleLut_length : contract5SrgbSingleLut.length = 256 := by
  simp only [contract5SrgbSingleLut, List.length_append, List.length_cons, List.length_nil]
theorem contract6SrgbSingleLut_length : contract6SrgbSingleLut.length = 256 := by
  simp only [contract6SrgbSingleLut, List.length_append, List.length_cons, List.length_nil]

/-! ### sRGB channel conversions under a given `SRGB_PATH` (R85 to R88, R98) -/

/-- `expand5_srgb`: U7 after U2 (R85); single-round by its table (R98). -/
def expand5SrgbOn (path : SrgbPath) (c5 : Channel5) : Channel8s :=
  match path with
  | .twoStage => gammaCompress (widen5 c5)
  | .singleRound =>
    BitVec.ofNat 8 (expand5SrgbSingleLut[c5.toNat]'(by rw [expand5SrgbSingleLut_length]; exact c5.isLt))

/-- `expand6_srgb`: U7 after U3 (R86); single-round by its table (R98). -/
def expand6SrgbOn (path : SrgbPath) (c6 : Channel6) : Channel8s :=
  match path with
  | .twoStage => gammaCompress (widen6 c6)
  | .singleRound =>
    BitVec.ofNat 8 (expand6SrgbSingleLut[c6.toNat]'(by rw [expand6SrgbSingleLut_length]; exact c6.isLt))

/-- `contract8to5_srgb`: U4 after U6 (R87); single-round by its table (R98). -/
def contract5SrgbOn (path : SrgbPath) (s8 : Channel8s) : Channel5 :=
  match path with
  | .twoStage => narrow5 (gammaExpand s8)
  | .singleRound =>
    BitVec.ofNat 5 (contract5SrgbSingleLut[s8.toNat]'(by rw [contract5SrgbSingleLut_length]; exact s8.isLt))

/-- `contract8to6_srgb`: U5 after U6 (R88); single-round by its table (R98). -/
def contract6SrgbOn (path : SrgbPath) (s8 : Channel8s) : Channel6 :=
  match path with
  | .twoStage => narrow6 (gammaExpand s8)
  | .singleRound =>
    BitVec.ofNat 6 (contract6SrgbSingleLut[s8.toNat]'(by rw [contract6SrgbSingleLut_length]; exact s8.isLt))

/-! ### The same for this block, whose `SRGB_PATH` is `TWO_STAGE` (R7, D8) -/

/-- `expand5_srgb(c5) -> Channel8s` (R85). -/
def expand5Srgb (c5 : Channel5) : Channel8s := expand5SrgbOn Config.srgbPath c5

/-- `expand6_srgb(c6) -> Channel8s` (R86). -/
def expand6Srgb (c6 : Channel6) : Channel8s := expand6SrgbOn Config.srgbPath c6

/-- `contract8to5_srgb(s8) -> Channel5` (R87). -/
def contract5Srgb (s8 : Channel8s) : Channel5 := contract5SrgbOn Config.srgbPath s8

/-- `contract8to6_srgb(s8) -> Channel6` (R88). -/
def contract6Srgb (s8 : Channel8s) : Channel6 := contract6SrgbOn Config.srgbPath s8

/-! ### Byte pairs, decode, encode (R89, R90) -/

/-- The pixel value of a byte pair: the bus value, through U10 if the pair is big-endian (R89). -/
def pixelOfBytes (e : Endianness) (p : BytePair) : Pixel :=
  match e with
  | .little => busValue p
  | .big => endiannessSwap (busValue p)

/-- The byte pair of a pixel value: on the bus as it is, through U10 first if big-endian (R90). -/
def bytesOfPixel (e : Endianness) (w : Pixel) : BytePair :=
  match e with
  | .little => busBytes w
  | .big => busBytes (endiannessSwap w)

/-- `decode(b0, b1, order, endianness)` (R89). -/
def pixelDecode (p : BytePair) (order : ComponentOrder) (e : Endianness) : FieldTriple :=
  pixelUnpack order (pixelOfBytes e p)

/-- `encode((r5, g6, b5), order, endianness)` (R90). -/
def pixelEncode (t : FieldTriple) (order : ComponentOrder) (e : Endianness) : BytePair :=
  bytesOfPixel e (pixelPack order t)

/-! ### Component swap (R91) -/

/-- `swap_components` on the 16-bit value: U8 as RGB565, then U9 as BGR565 (R91). -/
def swapComponents (w : Pixel) : Pixel := pixelPack .bgr565 (pixelUnpack .rgb565 w)

/-- `swap_components` on a byte pair, read and written with one endianness (R91, D19). -/
def swapComponentsBytes (e : Endianness) (p : BytePair) : BytePair :=
  bytesOfPixel e (swapComponents (pixelOfBytes e p))

/-! ### The facade conversions (R92 to R96) -/

/-- Pixel to RGB888 (R92). -/
def pixelToRgb888 (w : Pixel) (order : ComponentOrder) : Rgb888 :=
  let t := pixelUnpack order w
  { r := widen5 t.r5, g := widen6 t.g6, b := widen5 t.b5 }

/-- Pixel to sRGB888 (R93). -/
def pixelToSrgb888 (w : Pixel) (order : ComponentOrder) : Srgb888 :=
  let t := pixelUnpack order w
  { r := expand5Srgb t.r5, g := expand6Srgb t.g6, b := expand5Srgb t.b5 }

/-- RGB888 to pixel (R94). -/
def rgb888ToPixel (t : Rgb888) (order : ComponentOrder) : Pixel :=
  pixelPack order { r5 := narrow5 t.r, g6 := narrow6 t.g, b5 := narrow5 t.b }

/-- sRGB888 to pixel (R95). -/
def srgb888ToPixel (t : Srgb888) (order : ComponentOrder) : Pixel :=
  pixelPack order { r5 := contract5Srgb t.r, g6 := contract6Srgb t.g, b5 := contract5Srgb t.b }

/-- Bytes to RGB888: R92 with the byte handling of R89 before it (§4.4). -/
def bytesToRgb888 (p : BytePair) (order : ComponentOrder) (e : Endianness) : Rgb888 :=
  pixelToRgb888 (pixelOfBytes e p) order

/-- Bytes to sRGB888: R93 with the byte handling of R89 before it (§4.4). -/
def bytesToSrgb888 (p : BytePair) (order : ComponentOrder) (e : Endianness) : Srgb888 :=
  pixelToSrgb888 (pixelOfBytes e p) order

/-- RGB888 to bytes: R94 with the byte handling of R90 after it (§4.4). -/
def rgb888ToBytes (t : Rgb888) (order : ComponentOrder) (e : Endianness) : BytePair :=
  bytesOfPixel e (rgb888ToPixel t order)

/-- sRGB888 to bytes: R95 with the byte handling of R90 after it (§4.4). -/
def srgb888ToBytes (t : Srgb888) (order : ComponentOrder) (e : Endianness) : BytePair :=
  bytesOfPixel e (srgb888ToPixel t order)

/-- Bytes to bytes, from (order, endianness) to (order, endianness) (R96 (c)). -/
def bytesToBytes (o1 : ComponentOrder) (e1 : Endianness) (o2 : ComponentOrder) (e2 : Endianness) (p : BytePair) :
    BytePair :=
  pixelEncode (pixelDecode p o1 e1) o2 e2

/-- Endianness conversion alone: U10 on the bus value (R96 (a)). -/
def swapBytes (p : BytePair) : BytePair := busBytes (endiannessSwap (busValue p))

end Sys2Proof.Machine
end

