-- ==== Sys2Proof/Machine/Program.lean ====
section
/-! DEFINITION. The host's side of a program (spec/30_encoding.md rules R46 and R47): lines of text, the word a line
builds, and evaluation as the left fold of "evaluate and bind" over the list (spec/95_test_vectors.md, Part 3). The
names are values the host holds, no registers of the block (spec/10_state.md rule R18), so they stand here and not in
`State`. -/

namespace Sys2Proof.Machine

/-! ### Lines (R46) -/

/-- The eleven mnemonics (R41). -/
inductive Mnemonic where
  | rgb565UnpackChannel5
  | rgb565UnpackChannel6
  | channel5ToChannel8Linear
  | channel6ToChannel8Linear
  | channel8ToChannel5Linear
  | channel8ToChannel6Linear
  | srgbGammaExpandLut
  | srgbGammaCompressLut
  | rgb565PixelUnpack
  | rgb565PixelPack
  | endiannessSwap16b
  deriving DecidableEq, Repr

/-- The modes `.lo`, `.hi`, `.rgb` and `.bgr` (R46). -/
inductive Mode where
  | lo
  | hi
  | rgb
  | bgr
  deriving DecidableEq, Repr

/-- The selectors `.r5`, `.g6` and `.b5` of one output of an earlier unpack (R46). -/
inductive OutputLane where
  | r5
  | g6
  | b5
  deriving DecidableEq, Repr

/-- An argument: a literal, an earlier name, or one output of an earlier `rgb565_pixel_unpack` (R46). -/
inductive Arg where
  | literal (n : Nat)
  | name (x : String)
  | lane (x : String) (l : OutputLane)
  deriving DecidableEq, Repr

/-- `<name> = <mnemonic>[.<mode>] <arg>{, <arg>}` (R46). -/
structure Line where
  name     : String
  mnemonic : Mnemonic
  mode     : Option Mode
  args     : List Arg
  deriving DecidableEq, Repr

/-- The value bound to a name: the output of a one-output unit, or the triple of U8 (R47). -/
inductive Value where
  | scalar (v : Nat)
  | triple (t : FieldTriple)
  deriving DecidableEq, Repr

/-- The names bound so far. -/
abbrev Env := List (String × Value)

/-- The host and the block: the bound names and the wrapper's ports. -/
structure HostState where
  env   : Env
  block : State
  deriving DecidableEq, Repr

/-- Why a line has no meaning. Each is safe: the model gives such a line no value (log 8). -/
inductive LineError where
  /-- The text is no line of the syntax (R46). -/
  | badSyntax
  /-- A mode missing, forbidden or of another mnemonic (R46). -/
  | badMode
  /-- Not the mnemonic's number of arguments (R46). -/
  | badArgCount
  /-- A name that no earlier line defines (R46). -/
  | unknownName (x : String)
  /-- A selector on a value that is no output of `rgb565_pixel_unpack` (R46). -/
  | noSuchLane (x : String)
  /-- An argument that does not fit its port (R46). -/
  | argTooWide (n : Nat)
  /-- A name assigned a second time (R46). -/
  | nameTaken (x : String)
  /-- The block refused the word: it is reserved (R44). -/
  | reservedWord
  deriving DecidableEq, Repr

/-! ### Building the operation word (R47) -/

/-- `OP`, the row number of the mnemonic in the operation map (R41, R47). -/
def Mnemonic.row : Mnemonic → Nat
  | .rgb565UnpackChannel5 => 0
  | .rgb565UnpackChannel6 => 1
  | .channel5ToChannel8Linear => 2
  | .channel6ToChannel8Linear => 3
  | .channel8ToChannel5Linear => 4
  | .channel8ToChannel6Linear => 5
  | .srgbGammaExpandLut => 6
  | .srgbGammaCompressLut => 7
  | .rgb565PixelUnpack => 8
  | .rgb565PixelPack => 9
  | .endiannessSwap16b => 10

/-- The operand lanes of a mnemonic, as (width, lowest bit in `A`), in the order of its arguments (R42, R46). -/
def Mnemonic.lanes : Mnemonic → List (Nat × Nat)
  | .rgb565UnpackChannel5 => [(16, 0)]
  | .rgb565UnpackChannel6 => [(16, 0)]
  | .channel5ToChannel8Linear => [(5, 0)]
  | .channel6ToChannel8Linear => [(6, 0)]
  | .channel8ToChannel5Linear => [(8, 0)]
  | .channel8ToChannel6Linear => [(8, 0)]
  | .srgbGammaExpandLut => [(8, 0)]
  | .srgbGammaCompressLut => [(8, 0)]
  | .rgb565PixelUnpack => [(16, 0)]
  | .rgb565PixelPack => [(5, 16), (6, 8), (5, 0)]
  | .endiannessSwap16b => [(16, 0)]

/-- `M` of a line: mandatory on three mnemonics and forbidden, hence 0, on the others (R46, R47). -/
def modeOf : Mnemonic → Option Mode → Option Nat
  | .rgb565UnpackChannel5, some .lo => some 0
  | .rgb565UnpackChannel5, some .hi => some 1
  | .rgb565UnpackChannel5, _ => none
  | .rgb565PixelUnpack, some .rgb => some 0
  | .rgb565PixelUnpack, some .bgr => some 1
  | .rgb565PixelUnpack, _ => none
  | .rgb565PixelPack, some .rgb => some 0
  | .rgb565PixelPack, some .bgr => some 1
  | .rgb565PixelPack, _ => none
  | _, none => some 0
  | _, some _ => none

/-- The value bound to a name. -/
def lookupName (env : Env) (x : String) : Option Value :=
  match env with
  | [] => none
  | (k, v) :: rest => if k = x then some v else lookupName rest x

/-- A bound value as one number; a triple reads as the 24-bit `y` (R47, log 9). -/
def Value.number : Value → Nat
  | .scalar v => v
  | .triple t => (resultTriple t).toNat

/-- One output of a triple (R46). -/
def laneOf (t : FieldTriple) : OutputLane → Nat
  | .r5 => t.r5.toNat
  | .g6 => t.g6.toNat
  | .b5 => t.b5.toNat

/-- The number an argument stands for (R46). -/
def argNumber (env : Env) : Arg → Except LineError Nat
  | .literal n => .ok n
  | .name x =>
    match lookupName env x with
    | some v => .ok v.number
    | none => .error (.unknownName x)
  | .lane x l =>
    match lookupName env x with
    | some (.triple t) => .ok (laneOf t l)
    | some (.scalar _) => .error (.noSuchLane x)
    | none => .error (.unknownName x)

/-- `A` from the arguments by the operand lanes, every other bit 0; an argument must fit its port (R46, R47). -/
def operandOf (env : Env) : List (Nat × Nat) → List Arg → Except LineError Nat
  | [], [] => .ok 0
  | (width, low) :: lanes, a :: args =>
    match argNumber env a with
    | .error e => .error e
    | .ok n =>
      if n < 2 ^ width then
        match operandOf env lanes args with
        | .error e => .error e
        | .ok rest => .ok (n * 2 ^ low + rest)
      else .error (.argTooWide n)
  | _, _ => .error .badArgCount

/-- `opw = OP * 2^28 + M * 2^27 + Z * 2^24 + A` with `Z = 0` (R40, R47). -/
def Line.word (env : Env) (l : Line) : Except LineError OpWord :=
  match modeOf l.mnemonic l.mode with
  | none => .error .badMode
  | some m =>
    match operandOf env l.mnemonic.lanes l.args with
    | .error e => .error e
    | .ok a => .ok (BitVec.ofNat 32 (l.mnemonic.row * 2 ^ 28 + m * 2 ^ 27 + a))

/-! ### Evaluation (R46, R47) -/

/-- The value a line binds: the triple of U8, otherwise the one output (R47). Bits of `y` outside its result lanes are
0 (R42), so the one output is `y` as a number. -/
def boundValue : Mnemonic → Result → Value
  | .rgb565PixelUnpack, y => .triple (tripleOfResult y)
  | _, y => .scalar y.toNat

/-- One line: build its word, evaluate the wrapper on it, bind the name once (R46, R47). -/
def evalLine (h : HostState) (l : Line) : Except LineError HostState :=
  match lookupName h.env l.name with
  | some _ => .error (.nameTaken l.name)
  | none =>
    match l.word h.env with
    | .error e => .error e
    | .ok w =>
      match step (h.block.present w) with
      | .next t => .ok { env := h.env ++ [(l.name, boundValue l.mnemonic t.y)], block := t }
      | .refused _ => .error .reservedWord
      | .fault f => nomatch f

/-- A program: its lines in order; its end state is the set of values of its names (R46). -/
def runLines (h : HostState) : List Line → Except LineError HostState
  | [] => .ok h
  | l :: rest =>
    match evalLine h l with
    | .error e => .error e
    | .ok h' => runLines h' rest

/-- The start of a program: no name bound (spec/95_test_vectors.md, Part 3). -/
def HostState.start : HostState := { env := [], block := State.reset }

/-! ### The textual form (R46; the lexical details are log 7) -/

/-- The pieces between the occurrences of a character. -/
def splitAtChar (c : Char) : List Char → List (List Char)
  | [] => [[]]
  | x :: xs =>
    match splitAtChar c xs with
    | [] => [[x]]
    | p :: ps => if x = c then [] :: p :: ps else (x :: p) :: ps

/-- Without the spaces at either end. -/
def trimSpaces (cs : List Char) : List Char :=
  ((cs.dropWhile (· = ' ')).reverse.dropWhile (· = ' ')).reverse

/-- The value of a digit in a base of at most 16. -/
def digitValue (base : Nat) (c : Char) : Option Nat :=
  let v := if '0' ≤ c ∧ c ≤ '9' then c.toNat - 48
    else if 'A' ≤ c ∧ c ≤ 'F' then c.toNat - 55
    else if 'a' ≤ c ∧ c ≤ 'f' then c.toNat - 87
    else 16
  if v < base then some v else none

/-- The digits of a literal, most significant first, after a value already read. -/
def readDigits (base acc : Nat) : List Char → Option Nat
  | [] => some acc
  | c :: cs =>
    match digitValue base c with
    | none => none
    | some d => readDigits base (acc * base + d) cs

/-- An unsigned literal: decimal, `0x` hexadecimal or `0b` binary (R46). -/
def readLiteral : List Char → Option Nat
  | '0' :: 'x' :: c :: cs => readDigits 16 0 (c :: cs)
  | '0' :: 'b' :: c :: cs => readDigits 2 0 (c :: cs)
  | c :: cs => readDigits 10 0 (c :: cs)
  | [] => none

/-- A letter or an underscore. -/
def isNameStart (c : Char) : Bool :=
  ('a' ≤ c ∧ c ≤ 'z') || ('A' ≤ c ∧ c ≤ 'Z') || c = '_'

/-- A name: a letter or underscore, then letters, underscores and digits. -/
def readName : List Char → Option String
  | [] => none
  | c :: cs =>
    if isNameStart c && cs.all (fun d => isNameStart d || ('0' ≤ d ∧ d ≤ '9')) then some (String.ofList (c :: cs))
    else none

/-- A mnemonic, "written in full" (R46). -/
def readMnemonic (s : String) : Option Mnemonic :=
  if s = "rgb565_unpack_channel5" then some .rgb565UnpackChannel5
  else if s = "rgb565_unpack_channel6" then some .rgb565UnpackChannel6
  else if s = "channel5_to_channel8_linear" then some .channel5ToChannel8Linear
  else if s = "channel6_to_channel8_linear" then some .channel6ToChannel8Linear
  else if s = "channel8_to_channel5_linear" then some .channel8ToChannel5Linear
  else if s = "channel8_to_channel6_linear" then some .channel8ToChannel6Linear
  else if s = "srgb_gamma_expand_lut" then some .srgbGammaExpandLut
  else if s = "srgb_gamma_compress_lut" then some .srgbGammaCompressLut
  else if s = "rgb565_pixel_unpack" then some .rgb565PixelUnpack
  else if s = "rgb565_pixel_pack" then some .rgb565PixelPack
  else if s = "endianness_swap_16b" then some .endiannessSwap16b
  else none

/-- A mode (R46). -/
def readMode (s : String) : Option Mode :=
  if s = "lo" then some .lo
  else if s = "hi" then some .hi
  else if s = "rgb" then some .rgb
  else if s = "bgr" then some .bgr
  else none

/-- An output selector (R46). -/
def readLane (s : String) : Option OutputLane :=
  if s = "r5" then some .r5
  else if s = "g6" then some .g6
  else if s = "b5" then some .b5
  else none

/-- `<mnemonic>[.<mode>]` (R46). -/
def readOperation (cs : List Char) : Option (Mnemonic × Option Mode) :=
  match splitAtChar '.' cs with
  | [m] => (readMnemonic (String.ofList m)).map (fun k => (k, none))
  | [m, d] =>
    match readMnemonic (String.ofList m), readMode (String.ofList d) with
    | some k, some e => some (k, some e)
    | _, _ => none
  | _ => none

/-- `<arg>` (R46). -/
def readArg (cs : List Char) : Option Arg :=
  match readLiteral cs with
  | some n => some (.literal n)
  | none =>
    match splitAtChar '.' cs with
    | [x] => (readName x).map .name
    | [x, d] =>
      match readName x, readLane (String.ofList d) with
      | some k, some e => some (.lane k e)
      | _, _ => none
    | _ => none

/-- `<arg>{, <arg>}` (R46). -/
def readArgs : List (List Char) → Option (List Arg)
  | [] => some []
  | p :: ps =>
    match readArg (trimSpaces p), readArgs ps with
    | some a, some as => some (a :: as)
    | _, _ => none

/-- A line of text; what follows `;` is comment (R46). -/
def readLine (text : String) : Option Line :=
  match splitAtChar '=' (text.toList.takeWhile (· ≠ ';')) with
  | [lhs, rhs] =>
    let body := trimSpaces rhs
    match readName (trimSpaces lhs), readOperation (body.takeWhile (· ≠ ' ')),
        readArgs (splitAtChar ',' (body.dropWhile (· ≠ ' '))) with
    | some x, some (k, d), some as => some { name := x, mnemonic := k, mode := d, args := as }
    | _, _, _ => none
  | _ => none

/-- A program as text, one operation per line (R46). -/
def runText (h : HostState) : List String → Except LineError HostState
  | [] => .ok h
  | text :: rest =>
    match readLine text with
    | none => .error .badSyntax
    | some l =>
      match evalLine h l with
      | .error e => .error e
      | .ok h' => runText h' rest

end Sys2Proof.Machine
end

