-- ==== Sys2Proof/Machine/Expansion.lean ====
section
/-! DEFINITION. The expansions of the pseudo-operations: for each API-level operation of the document, the fixed
sequence of lines that performs it (spec/30_encoding.md rule R48, spec/44_composite_operations.md rules R85 to R96),
with the spec's own names. Composite.lean gives the same operations as functions; that the lines compute the functions
is a claim. -/

namespace Sys2Proof.Machine

/-- `.rgb` or `.bgr` (R46). -/
def orderMode : ComponentOrder → Option Mode
  | .rgb565 => some .rgb
  | .bgr565 => some .bgr

/-- `expand5_srgb` (R85). -/
def linesExpand5Srgb (c5 : Channel5) : List Line :=
  [ ⟨"t", .channel5ToChannel8Linear, none, [.literal c5.toNat]⟩,
    ⟨"s", .srgbGammaCompressLut, none, [.name "t"]⟩ ]

/-- `expand6_srgb` (R86). -/
def linesExpand6Srgb (c6 : Channel6) : List Line :=
  [ ⟨"t", .channel6ToChannel8Linear, none, [.literal c6.toNat]⟩,
    ⟨"s", .srgbGammaCompressLut, none, [.name "t"]⟩ ]

/-- `contract8to5_srgb` (R87). -/
def linesContract5Srgb (s8 : Channel8s) : List Line :=
  [ ⟨"l", .srgbGammaExpandLut, none, [.literal s8.toNat]⟩,
    ⟨"c", .channel8ToChannel5Linear, none, [.name "l"]⟩ ]

/-- `contract8to6_srgb` (R88). -/
def linesContract6Srgb (s8 : Channel8s) : List Line :=
  [ ⟨"l", .srgbGammaExpandLut, none, [.literal s8.toNat]⟩,
    ⟨"c", .channel8ToChannel6Linear, none, [.name "l"]⟩ ]

/-- `decode` of the byte-pair bus value `v` (R89). -/
def linesDecode (v : BitVec 16) (order : ComponentOrder) : Endianness → List Line
  | .little =>
    [ ⟨"t", .rgb565PixelUnpack, orderMode order, [.literal v.toNat]⟩ ]
  | .big =>
    [ ⟨"w", .endiannessSwap16b, none, [.literal v.toNat]⟩,
      ⟨"t", .rgb565PixelUnpack, orderMode order, [.name "w"]⟩ ]

/-- `encode` to the byte-pair bus value `v` (R90). -/
def linesEncode (t : FieldTriple) (order : ComponentOrder) : Endianness → List Line
  | .little =>
    [ ⟨"v", .rgb565PixelPack, orderMode order,
        [.literal t.r5.toNat, .literal t.g6.toNat, .literal t.b5.toNat]⟩ ]
  | .big =>
    [ ⟨"w", .rgb565PixelPack, orderMode order,
        [.literal t.r5.toNat, .literal t.g6.toNat, .literal t.b5.toNat]⟩,
      ⟨"v", .endiannessSwap16b, none, [.name "w"]⟩ ]

/-- `swap_components` on the 16-bit value (R91). -/
def linesSwapComponents (w : Pixel) : List Line :=
  [ ⟨"t", .rgb565PixelUnpack, some .rgb, [.literal w.toNat]⟩,
    ⟨"w2", .rgb565PixelPack, some .bgr, [.lane "t" .r5, .lane "t" .g6, .lane "t" .b5]⟩ ]

/-- Pixel to RGB888 (R92). -/
def linesPixelToRgb888 (w : Pixel) (order : ComponentOrder) : List Line :=
  [ ⟨"t", .rgb565PixelUnpack, orderMode order, [.literal w.toNat]⟩,
    ⟨"R", .channel5ToChannel8Linear, none, [.lane "t" .r5]⟩,
    ⟨"G", .channel6ToChannel8Linear, none, [.lane "t" .g6]⟩,
    ⟨"B", .channel5ToChannel8Linear, none, [.lane "t" .b5]⟩ ]

/-- Pixel to sRGB888 (R93). -/
def linesPixelToSrgb888 (w : Pixel) (order : ComponentOrder) : List Line :=
  [ ⟨"t", .rgb565PixelUnpack, orderMode order, [.literal w.toNat]⟩,
    ⟨"r", .channel5ToChannel8Linear, none, [.lane "t" .r5]⟩,
    ⟨"g", .channel6ToChannel8Linear, none, [.lane "t" .g6]⟩,
    ⟨"b", .channel5ToChannel8Linear, none, [.lane "t" .b5]⟩,
    ⟨"Rs", .srgbGammaCompressLut, none, [.name "r"]⟩,
    ⟨"Gs", .srgbGammaCompressLut, none, [.name "g"]⟩,
    ⟨"Bs", .srgbGammaCompressLut, none, [.name "b"]⟩ ]

/-- RGB888 to pixel (R94). -/
def linesRgb888ToPixel (t : Rgb888) (order : ComponentOrder) : List Line :=
  [ ⟨"r5", .channel8ToChannel5Linear, none, [.literal t.r.toNat]⟩,
    ⟨"g6", .channel8ToChannel6Linear, none, [.literal t.g.toNat]⟩,
    ⟨"b5", .channel8ToChannel5Linear, none, [.literal t.b.toNat]⟩,
    ⟨"w", .rgb565PixelPack, orderMode order, [.name "r5", .name "g6", .name "b5"]⟩ ]

/-- sRGB888 to pixel (R95). -/
def linesSrgb888ToPixel (t : Srgb888) (order : ComponentOrder) : List Line :=
  [ ⟨"r", .srgbGammaExpandLut, none, [.literal t.r.toNat]⟩,
    ⟨"g", .srgbGammaExpandLut, none, [.literal t.g.toNat]⟩,
    ⟨"b", .srgbGammaExpandLut, none, [.literal t.b.toNat]⟩,
    ⟨"r5", .channel8ToChannel5Linear, none, [.name "r"]⟩,
    ⟨"g6", .channel8ToChannel6Linear, none, [.name "g"]⟩,
    ⟨"b5", .channel8ToChannel5Linear, none, [.name "b"]⟩,
    ⟨"w", .rgb565PixelPack, orderMode order, [.name "r5", .name "g6", .name "b5"]⟩ ]

/-- Endianness conversion of a byte pair alone, on its bus value `v` (R96 (a), listed in R48). -/
def linesSwapBytes (v : BitVec 16) : List Line :=
  [ ⟨"v2", .endiannessSwap16b, none, [.literal v.toNat]⟩ ]

/-- Bytes to bytes, on bus values, from (o1, e1) to (o2, e2) (R96 (c)). Where an endianness is little-endian the spec's
line `w = v` or `v2 = w2` is no operation: the later line takes the earlier value. Order conversion alone (R96 (b)) is
the case of two orders and one endianness. -/
def linesBytesToBytes (v : BitVec 16) (o1 : ComponentOrder) (e1 : Endianness) (o2 : ComponentOrder)
    (e2 : Endianness) : List Line :=
  (match e1 with
    | .little => [⟨"t", .rgb565PixelUnpack, orderMode o1, [.literal v.toNat]⟩]
    | .big =>
      [ ⟨"w", .endiannessSwap16b, none, [.literal v.toNat]⟩,
        ⟨"t", .rgb565PixelUnpack, orderMode o1, [.name "w"]⟩ ]) ++
  (match e2 with
    | .little => [⟨"v2", .rgb565PixelPack, orderMode o2, [.lane "t" .r5, .lane "t" .g6, .lane "t" .b5]⟩]
    | .big =>
      [ ⟨"w2", .rgb565PixelPack, orderMode o2, [.lane "t" .r5, .lane "t" .g6, .lane "t" .b5]⟩,
        ⟨"v2", .endiannessSwap16b, none, [.name "w2"]⟩ ])

end Sys2Proof.Machine
end

