-- ==== Sys2Proof/Machine/Lut.lean ====
section
/-! DEFINITION. The document's acceleration layer: every function either by arithmetic or by table, as the build-time
switches select (spec/20_memory.md rule R23, spec/00_scope.md rule R7). The tables whose contents the spec writes out
are those of LutTables.lean; the others are "generated once" from the function they cache. That no switch changes an
output is a claim (spec/45_properties.md rules R101 and R108), not part of these definitions. -/

namespace Sys2Proof.Machine

theorem widen5Lut_length : widen5Lut.length = 32 := by
  simp only [widen5Lut, List.length_append, List.length_cons, List.length_nil]
theorem widen6Lut_length : widen6Lut.length = 64 := by
  simp only [widen6Lut, List.length_append, List.length_cons, List.length_nil]
theorem narrow5Lut_length : narrow5Lut.length = 256 := by
  simp only [narrow5Lut, List.length_append, List.length_cons, List.length_nil]
theorem narrow6Lut_length : narrow6Lut.length = 256 := by
  simp only [narrow6Lut, List.length_append, List.length_cons, List.length_nil]
theorem expand5SrgbLut_length : expand5SrgbLut.length = 32 := by
  simp only [expand5SrgbLut, List.length_append, List.length_cons, List.length_nil]
theorem expand6SrgbLut_length : expand6SrgbLut.length = 64 := by
  simp only [expand6SrgbLut, List.length_append, List.length_cons, List.length_nil]
theorem contract5SrgbLut_length : contract5SrgbLut.length = 256 := by
  simp only [contract5SrgbLut, List.length_append, List.length_cons, List.length_nil]
theorem contract6SrgbLut_length : contract6SrgbLut.length = 256 := by
  simp only [contract6SrgbLut, List.length_append, List.length_cons, List.length_nil]

/-- A table generated once over the whole domain of an `n`-bit index (R23). -/
def generated {α : Type} (n : Nat) (f : BitVec n → α) : List α :=
  (List.range (2 ^ n)).map (fun i => f (BitVec.ofNat n i))

theorem generated_length {α : Type} (n : Nat) (f : BitVec n → α) : (generated n f).length = 2 ^ n := by
  simp [generated]

/-- A read of a generated table at an index of its domain. -/
def lookup {α : Type} (n : Nat) (f : BitVec n → α) (i : BitVec n) : α :=
  (generated n f)[i.toNat]'(by rw [generated_length]; exact i.isLt)

/-- The one design constraint the document names (spec/60_exceptions.md rule R123, spec/70_reset_and_hazards.md rule
R149): a table has an entry for every input of its domain, and each is the arithmetic function's value there. A table for
which this is false is a build-time defect and no run-time event: no step tests it, reports it or recovers from it, so it
is a claim about every table of the model and stands in no definition of a step. -/
def TableAgrees {α : Type} {n : Nat} (table : List α) (f : BitVec n → α) : Prop :=
  table.length = 2 ^ n ∧ ∀ i : BitVec n, table[i.toNat]? = some (f i)

/-- The RGB888 triple on 24 bits as three channels (R37). -/
def rgb888OfBits (v : BitVec 24) : Rgb888 :=
  { r := v.extractLsb' 16 8, g := v.extractLsb' 8 8, b := v.extractLsb' 0 8 }

/-- The sRGB888 triple on 24 bits as three channels (R37). -/
def srgb888OfBits (v : BitVec 24) : Srgb888 :=
  { r := v.extractLsb' 16 8, g := v.extractLsb' 8 8, b := v.extractLsb' 0 8 }

/-! ### The channel tables (rows 2 to 5 and 8 to 11 of R23) -/

/-- U2 by its switch. -/
def widen5By (st : LutStrategy) (c5 : Channel5) : Channel8 :=
  if st.widen5 then BitVec.ofNat 8 (widen5Lut[c5.toNat]'(by rw [widen5Lut_length]; exact c5.isLt))
  else widen5 c5

/-- U3 by its switch. -/
def widen6By (st : LutStrategy) (c6 : Channel6) : Channel8 :=
  if st.widen6 then BitVec.ofNat 8 (widen6Lut[c6.toNat]'(by rw [widen6Lut_length]; exact c6.isLt))
  else widen6 c6

/-- U4 by its switch. -/
def narrow5By (st : LutStrategy) (c8 : Channel8) : Channel5 :=
  if st.narrow5 then BitVec.ofNat 5 (narrow5Lut[c8.toNat]'(by rw [narrow5Lut_length]; exact c8.isLt))
  else narrow5 c8

/-- U5 by its switch. -/
def narrow6By (st : LutStrategy) (c8 : Channel8) : Channel6 :=
  if st.narrow6 then BitVec.ofNat 6 (narrow6Lut[c8.toNat]'(by rw [narrow6Lut_length]; exact c8.isLt))
  else narrow6 c8

/-- `expand5_srgb` by its switch. -/
def expand5SrgbBy (st : LutStrategy) (c5 : Channel5) : Channel8s :=
  if st.widen5Srgb then BitVec.ofNat 8 (expand5SrgbLut[c5.toNat]'(by rw [expand5SrgbLut_length]; exact c5.isLt))
  else gammaCompress (widen5By st c5)

/-- `expand6_srgb` by its switch. -/
def expand6SrgbBy (st : LutStrategy) (c6 : Channel6) : Channel8s :=
  if st.widen6Srgb then BitVec.ofNat 8 (expand6SrgbLut[c6.toNat]'(by rw [expand6SrgbLut_length]; exact c6.isLt))
  else gammaCompress (widen6By st c6)

/-- `contract8to5_srgb` by its switch. -/
def contract5SrgbBy (st : LutStrategy) (s8 : Channel8s) : Channel5 :=
  if st.narrow5Srgb then
    BitVec.ofNat 5 (contract5SrgbLut[s8.toNat]'(by rw [contract5SrgbLut_length]; exact s8.isLt))
  else narrow5By st (gammaExpand s8)

/-- `contract8to6_srgb` by its switch. -/
def contract6SrgbBy (st : LutStrategy) (s8 : Channel8s) : Channel6 :=
  if st.narrow6Srgb then
    BitVec.ofNat 6 (contract6SrgbLut[s8.toNat]'(by rw [contract6SrgbLut_length]; exact s8.isLt))
  else narrow6By st (gammaExpand s8)

/-! ### The whole-pixel tables (rows 1, 6, 7, 12 and 13 of R23) -/

/-- `swap_components` by its switch. -/
def swapComponentsBy (st : LutStrategy) (w : Pixel) : Pixel :=
  if st.swapComponents then lookup 16 swapComponents w
  else pixelPack .bgr565 (pixelUnpack .rgb565 w)

/-- Pixel to RGB888 by its switch; off, by the channel functions and their own switches. -/
def pixelToRgb888By (st : LutStrategy) (w : Pixel) (order : ComponentOrder) : Rgb888 :=
  if st.pixelTo888 then lookup 16 (pixelToRgb888 · order) w
  else
    let t := pixelUnpack order w
    { r := widen5By st t.r5, g := widen6By st t.g6, b := widen5By st t.b5 }

/-- Pixel to sRGB888 by its switch. -/
def pixelToSrgb888By (st : LutStrategy) (w : Pixel) (order : ComponentOrder) : Srgb888 :=
  if st.pixelToS888 then lookup 16 (pixelToSrgb888 · order) w
  else
    let t := pixelUnpack order w
    { r := expand5SrgbBy st t.r5, g := expand6SrgbBy st t.g6, b := expand5SrgbBy st t.b5 }

/-- RGB888 to pixel by its switch (`l888_to_l565`). -/
def rgb888ToPixelBy (st : LutStrategy) (t : Rgb888) (order : ComponentOrder) : Pixel :=
  if st.l888ToPixel then lookup 24 (fun v => rgb888ToPixel (rgb888OfBits v) order) (rgb888Bits t)
  else pixelPack order { r5 := narrow5By st t.r, g6 := narrow6By st t.g, b5 := narrow5By st t.b }

/-- sRGB888 to pixel by its switch (`s888_to_l565`). -/
def srgb888ToPixelBy (st : LutStrategy) (t : Srgb888) (order : ComponentOrder) : Pixel :=
  if st.s888ToPixel then lookup 24 (fun v => srgb888ToPixel (srgb888OfBits v) order) (srgb888Bits t)
  else pixelPack order { r5 := contract5SrgbBy st t.r, g6 := contract6SrgbBy st t.g, b5 := contract5SrgbBy st t.b }

end Sys2Proof.Machine
end

