-- ==== Sys2Proof/Machine/Transfer.lean ====
section
/-! DEFINITION. The sRGB transfer function and its inverse over the reals (spec/41_srgb_gamma.md rules R60 and R61),
and the exact test for a table entry in whole numbers (R66). No unit evaluates `enc` or `dec`: they define the
constants of Machine/Tables.lean, so they stand beside the machine for claims and are used by no step. -/

namespace Sys2Proof.Machine

/-- `enc`: linear-light intensity to gamma-encoded intensity, for `0 <= c <= 1` (R60). -/
noncomputable def enc (c : ℝ) : ℝ :=
  if c ≤ 0.0031308 then 12.92 * c else 1.055 * c ^ ((1 : ℝ) / 2.4) - 0.055

/-- `dec`: the inverse of `enc` on each branch, for `0 <= v <= 1` (R61). -/
noncomputable def dec (v : ℝ) : ℝ :=
  if v ≤ 12.92 * 0.0031308 then v / 12.92 else ((v + 0.055) / 1.055) ^ (2.4 : ℝ)

/-- `floor(n * x + 1/2)`: rescaling a normalised value to full scale `n`, rounded half up (R64, R65, R98). -/
noncomputable def quantise (n : ℕ) (x : ℝ) : ℤ := ⌊(n : ℝ) * x + 1 / 2⌋

/-- `L(k) = ((2*k - 1)/510 + 11/200) / (211/200)` (R66). -/
def lowerEdge (k : ℕ) : ℚ := ((2 * (k : ℚ) - 1) / 510 + 11 / 200) / (211 / 200)

/-- The exact test that `GCMP[i] = k`, for `i >= 1` (R66). -/
def gcmpTest (i k : ℕ) : Prop :=
  lowerEdge k ^ 12 ≤ ((i : ℚ) / 255) ^ 5 ∧ ((i : ℚ) / 255) ^ 5 < lowerEdge (k + 1) ^ 12

/-- `u = (i/255 + 11/200) / (211/200)` (R66). -/
def encodedBase (i : ℕ) : ℚ := ((i : ℚ) / 255 + 11 / 200) / (211 / 200)

/-- The exact test that `GEXP[i] = k`, for `i >= 11`; for `k = 0` the left bound always holds (R66). -/
def gexpTest (i k : ℕ) : Prop :=
  ((2 * (k : ℚ) - 1) / 510) ^ 5 ≤ encodedBase i ^ 12 ∧ encodedBase i ^ 12 < ((2 * (k : ℚ) + 1) / 510) ^ 5

end Sys2Proof.Machine
end

