-- ==== Sys2Proof/Safety.lean ====
section
/-! DEFINITION. The terms claims are stated in: an admitted input, the wrapper as a function of its input, a settled
output, and the words of spec/30_encoding.md rule R40 as numbers. -/

namespace Sys2Proof.Machine

/-- A safe input: the word on the input port is admitted, so the next step is no refusal (R43, R122). -/
def State.Admits (s : State) : Prop := (decode s.opw).isSome = true

/-- The wrapper as a function of `opw` alone: `y` of an admitted word, nothing of a reserved one (R40, R44). It is
taken at the state after reset; that every other state gives the same is a claim. -/
def wrapperY (w : OpWord) : Option Result :=
  match step (State.reset.present w) with
  | .next t => some t.y
  | .refused _ => none
  | .fault f => nomatch f

/-- The output is the function of the input now on the port, if the input is admitted (R40, R142). -/
def State.Settled (s : State) : Prop := ∀ v, wrapperY s.opw = some v → s.y = v

/-- `v[hi:lo] = (v >> lo) mod 2^(hi - lo + 1)`, the notation of spec/00_scope.md rule R8, on a number. -/
def bitsOf (v hi lo : Nat) : Nat := v / 2 ^ lo % 2 ^ (hi - lo + 1)

/-- `OP * 2^28 + M * 2^27 + A` with `Z = 0` (R40, R47). -/
def wordOf (op m a : Nat) : OpWord := BitVec.ofNat 32 (op * 2 ^ 28 + m * 2 ^ 27 + a)

/-- The code of a field selector as a number (R38). -/
def selCode : FieldSel → Nat
  | .lo => 0
  | .hi => 1

/-- The code of a component order as a number (R38). -/
def orderCode : ComponentOrder → Nat
  | .rgb565 => 0
  | .bgr565 => 1

/-- The bits of `y` that R42 lists for an operation; every other bit of `y` is 0. -/
def resultLanes : Instr → Result
  | .rgb565UnpackChannel5 _ _ => 0x00001F#24
  | .rgb565UnpackChannel6 _ => 0x00003F#24
  | .channel5ToChannel8Linear _ => 0x0000FF#24
  | .channel6ToChannel8Linear _ => 0x0000FF#24
  | .channel8ToChannel5Linear _ => 0x00001F#24
  | .channel8ToChannel6Linear _ => 0x00003F#24
  | .srgbGammaExpandLut _ => 0x0000FF#24
  | .srgbGammaCompressLut _ => 0x0000FF#24
  | .rgb565PixelUnpack _ _ => 0x1F3F1F#24
  | .rgb565PixelPack _ _ _ _ => 0x00FFFF#24
  | .endiannessSwap16b _ => 0x00FFFF#24

/-- The modes R46 allows on a mnemonic: mandatory on three of them and forbidden on the others. -/
def Mnemonic.allows (k : Mnemonic) (mode : Option Mode) : Prop :=
  match k with
  | .rgb565UnpackChannel5 => mode = some .lo ∨ mode = some .hi
  | .rgb565PixelUnpack => mode = some .rgb ∨ mode = some .bgr
  | .rgb565PixelPack => mode = some .rgb ∨ mode = some .bgr
  | .rgb565UnpackChannel6 => mode = none
  | .channel5ToChannel8Linear => mode = none
  | .channel6ToChannel8Linear => mode = none
  | .channel8ToChannel5Linear => mode = none
  | .channel8ToChannel6Linear => mode = none
  | .srgbGammaExpandLut => mode = none
  | .srgbGammaCompressLut => mode = none
  | .endiannessSwap16b => mode = none

/-- How a line writes an operation: its mnemonic, its mode and its operands as numbers, in the order of R46. -/
def lineForm : Instr → Mnemonic × Option Mode × List Nat
  | .rgb565UnpackChannel5 .lo pix => (.rgb565UnpackChannel5, some .lo, [pix.toNat])
  | .rgb565UnpackChannel5 .hi pix => (.rgb565UnpackChannel5, some .hi, [pix.toNat])
  | .rgb565UnpackChannel6 pix => (.rgb565UnpackChannel6, none, [pix.toNat])
  | .channel5ToChannel8Linear c5 => (.channel5ToChannel8Linear, none, [c5.toNat])
  | .channel6ToChannel8Linear c6 => (.channel6ToChannel8Linear, none, [c6.toNat])
  | .channel8ToChannel5Linear c8 => (.channel8ToChannel5Linear, none, [c8.toNat])
  | .channel8ToChannel6Linear c8 => (.channel8ToChannel6Linear, none, [c8.toNat])
  | .srgbGammaExpandLut s8 => (.srgbGammaExpandLut, none, [s8.toNat])
  | .srgbGammaCompressLut l8 => (.srgbGammaCompressLut, none, [l8.toNat])
  | .rgb565PixelUnpack .rgb565 pix => (.rgb565PixelUnpack, some .rgb, [pix.toNat])
  | .rgb565PixelUnpack .bgr565 pix => (.rgb565PixelUnpack, some .bgr, [pix.toNat])
  | .rgb565PixelPack .rgb565 r5 g6 b5 => (.rgb565PixelPack, some .rgb, [r5.toNat, g6.toNat, b5.toNat])
  | .rgb565PixelPack .bgr565 r5 g6 b5 => (.rgb565PixelPack, some .bgr, [r5.toNat, g6.toNat, b5.toNat])
  | .endiannessSwap16b d => (.endiannessSwap16b, none, [d.toNat])

/-- The numbers a line's arguments stand for, if every one of them stands for one (R46). -/
def Line.numbers (env : Env) (l : Line) (ns : List Nat) : Prop := l.args.map (argNumber env) = ns.map .ok

/-- An argument that uses a name (R46). -/
def Arg.mentions (x : String) : Arg → Bool
  | .literal _ => false
  | .name k => k == x
  | .lane k _ => k == x

/-- A line that uses a name (R46). -/
def Line.mentions (l : Line) (x : String) : Bool := l.args.any (·.mentions x)

end Sys2Proof.Machine
end

