-- ==== Sys2Proof/Certificates/Slice0/Obligations.lean ====
section
/-! DEFINITION. The statements for the provers. Each docstring names the rule of spec/ it formalises. Statements whose
conclusion is `exec i s = .next t` hold in every state with no hypothesis: the block has no mode, enable or fault. -/

open Sys2Proof Sys2Proof.Machine

/-! ### The operation word -/

/-- Decoding the word of any operation gives that operation back, with every operand at every value (R40 to R43). -/
def Obligations.DecodeOfEncode : Prop :=
  ∀ i : Instr, decode (encode i) = some i

/-- A word that decodes is the word of what it decodes to, so an admitted word has one meaning (R43, R47). -/
def Obligations.EncodeOfDecode : Prop :=
  ∀ (w : OpWord) (i : Instr), decode w = some i → encode i = w

/-- R41: a word selects a row if and only if `(opw AND mask) = match`, and the row it selects is the unit it decodes to;
the eleven rows are disjoint; a word that matches no row is reserved and refused. -/
def Obligations.OperationMap : Prop :=
  opTable.length = 11 ∧
  (∀ (w : OpWord) (r : OpRow), r ∈ opTable →
    (w &&& r.mask = r.matchBits ↔ ∃ i, decode w = some i ∧ i.mnemonic = r.mnemonic)) ∧
  (∀ (w : OpWord) (r r' : OpRow), r ∈ opTable → r' ∈ opTable →
    w &&& r.mask = r.matchBits → w &&& r'.mask = r'.matchBits → r = r') ∧
  (∀ s : State, (∀ r ∈ opTable, s.opw &&& r.mask ≠ r.matchBits) → step s = .refused .reservedOperationWord)

/-- R43, step by step on the word as a number: each of steps 2 to 5 refuses, a word that fails none of them is admitted
(step 6), and steps 2 to 5 together are the test of R41. -/
def Obligations.DecodingProcedure : Prop :=
  ∀ s : State,
    let w := s.opw.toNat
    let op := bitsOf w 31 28
    let m := bitsOf w 27 27
    let z := bitsOf w 26 24
    let a := bitsOf w 23 0
    let modeless := op = 1 ∨ op = 2 ∨ op = 3 ∨ op = 4 ∨ op = 5 ∨ op = 6 ∨ op = 7 ∨ op = 10
    let spare :=
      ((op = 0 ∨ op = 1 ∨ op = 8 ∨ op = 10) ∧ bitsOf a 23 16 ≠ 0) ∨
      (op = 2 ∧ bitsOf a 23 5 ≠ 0) ∨ (op = 3 ∧ bitsOf a 23 6 ≠ 0) ∨
      ((op = 4 ∨ op = 5 ∨ op = 6 ∨ op = 7) ∧ bitsOf a 23 8 ≠ 0) ∨
      (op = 9 ∧ (bitsOf a 23 21 ≠ 0 ∨ bitsOf a 15 14 ≠ 0 ∨ bitsOf a 7 5 ≠ 0))
    let reserved := z ≠ 0 ∨ 11 ≤ op ∨ (modeless ∧ m = 1) ∨ spare
    (reserved → step s = .refused .reservedOperationWord) ∧
    (¬ reserved → ∃ i t, decode s.opw = some i ∧ i.opCode.toNat = op ∧ exec i s = .next t ∧ step s = .next t) ∧
    (reserved ↔ ∀ r ∈ opTable, s.opw &&& r.mask ≠ r.matchBits)

/-- The admitted words number 525 408 out of 2^32, the count the spec derives in its decoding procedure. -/
def Obligations.AdmittedWordCount : Prop :=
  Nat.card { w : OpWord // (decode w).isSome = true } = 525408

/-- Words written out bit by bit from the encodings of opcode_table.json, one for each family (a sanity statement). -/
def Obligations.WrittenOutWordsDecode : Prop :=
  decode 0b0000_1_000_00000000_1111100000000000#32 = some (.rgb565UnpackChannel5 .hi 0xF800#16) ∧
  decode 0b0010_0_000_0000000000000000000_10000#32 = some (.channel5ToChannel8Linear 16#5) ∧
  decode 0b0110_0_000_0000000000000000_10111110#32 = some (.srgbGammaExpandLut 190#8) ∧
  decode 0b1001_1_000_000_11111_00_000000_000_00001#32 = some (.rgb565PixelPack .bgr565 31#5 0#6 1#5) ∧
  decode 0b1010_0_000_00000000_0011010000010010#32 = some (.endiannessSwap16b 0x3412#16)

/-- A step runs the decoded operation and nothing else; on a reserved word it is refused (R40, R43, R44). -/
def Obligations.StepRunsDecoded : Prop :=
  (∀ (s : State) (i : Instr), decode s.opw = some i → step s = exec i s) ∧
  (∀ s : State, decode s.opw = none → step s = .refused .reservedOperationWord)

/-! ### The units: what each operation answers, as an operation and as a word -/

/-- R70: U0 takes `pix[15:11]` or `pix[4:0]`, by `sel_hi`; `y[4:0] = c5`. -/
def Obligations.UnpackChannel5Result : Prop :=
  ∀ (sel : FieldSel) (pix : Pixel) (s : State),
    let y : Result := BitVec.ofNat 24 (if selCode sel = 1 then bitsOf pix.toNat 15 11 else bitsOf pix.toNat 4 0)
    let w := wordOf 0 (selCode sel) pix.toNat
    exec (.rgb565UnpackChannel5 sel pix) s = .next { s with y := y } ∧
    step { s with opw := w } = .next { opw := w, y := y }

/-- R71: U1 takes `pix[10:5]`; `y[5:0] = c6`. -/
def Obligations.UnpackChannel6Result : Prop :=
  ∀ (pix : Pixel) (s : State),
    let y : Result := BitVec.ofNat 24 (bitsOf pix.toNat 10 5)
    let w := wordOf 1 0 pix.toNat
    exec (.rgb565UnpackChannel6 pix) s = .next { s with y := y } ∧
    step { s with opw := w } = .next { opw := w, y := y }

/-- R51: `c8 = floor((510 * c5 + 31) / 62)`, which is also `floor((255 * c5 + 15) / 31)`; 0 gives 0, 31 gives 255,
strictly increasing, never above 255. -/
def Obligations.Channel5ToChannel8Result : Prop :=
  (∀ (c5 : Channel5) (s : State),
    let y : Result := BitVec.ofNat 24 ((510 * c5.toNat + 31) / 62)
    let w := wordOf 2 0 c5.toNat
    exec (.channel5ToChannel8Linear c5) s = .next { s with y := y } ∧
    step { s with opw := w } = .next { opw := w, y := y } ∧
    (510 * c5.toNat + 31) / 62 = (255 * c5.toNat + 15) / 31 ∧
    (510 * c5.toNat + 31) / 62 ≤ 255) ∧
  widen5 0#5 = 0#8 ∧ widen5 31#5 = 255#8 ∧ widen5 16#5 = 132#8 ∧
  ∀ c d : Channel5, c < d → widen5 c < widen5 d

/-- R52: `c8 = floor((510 * c6 + 63) / 126)`, which is also `floor((255 * c6 + 31) / 63)`; 0 gives 0, 63 gives 255,
strictly increasing by 4, and by 5 at 10, 31 and 52. -/
def Obligations.Channel6ToChannel8Result : Prop :=
  (∀ (c6 : Channel6) (s : State),
    let y : Result := BitVec.ofNat 24 ((510 * c6.toNat + 63) / 126)
    let w := wordOf 3 0 c6.toNat
    exec (.channel6ToChannel8Linear c6) s = .next { s with y := y } ∧
    step { s with opw := w } = .next { opw := w, y := y } ∧
    (510 * c6.toNat + 63) / 126 = (255 * c6.toNat + 31) / 63 ∧
    (510 * c6.toNat + 63) / 126 ≤ 255) ∧
  widen6 0#6 = 0#8 ∧ widen6 63#6 = 255#8 ∧ widen6 32#6 = 130#8 ∧
  ∀ c : Channel6, c < 63#6 →
    (widen6 (c + 1#6)).toNat = (widen6 c).toNat + (if c = 10#6 ∨ c = 31#6 ∨ c = 52#6 then 5 else 4)

/-- R53: `c5 = floor((62 * c8 + 255) / 510)`, which is also `floor((31 * c8 + 127) / 255)`; non-decreasing; each output
has eight or nine inputs but 0 and 31, which have five; not the truncation `c8 >> 3`, at 52 inputs, the first 5. -/
def Obligations.Channel8ToChannel5Result : Prop :=
  (∀ (c8 : Channel8) (s : State),
    let y : Result := BitVec.ofNat 24 ((62 * c8.toNat + 255) / 510)
    let w := wordOf 4 0 c8.toNat
    exec (.channel8ToChannel5Linear c8) s = .next { s with y := y } ∧
    step { s with opw := w } = .next { opw := w, y := y } ∧
    (62 * c8.toNat + 255) / 510 = (31 * c8.toNat + 127) / 255 ∧
    (62 * c8.toNat + 255) / 510 ≤ 31) ∧
  narrow5 0#8 = 0#5 ∧ narrow5 255#8 = 31#5 ∧ narrow5 132#8 = 16#5 ∧
  (∀ c d : Channel8, c ≤ d → narrow5 c ≤ narrow5 d) ∧
  (∀ k : Channel5,
    let n := ((List.range 256).filter (fun x => narrow5 (BitVec.ofNat 8 x) == k)).length
    if k = 0#5 ∨ k = 31#5 then n = 5 else n = 8 ∨ n = 9) ∧
  ((List.range 256).filter (fun x => (narrow5 (BitVec.ofNat 8 x)).toNat != x / 8)).length = 52 ∧
  narrow5 5#8 = 1#5 ∧ ∀ c : Channel8, c < 5#8 → (narrow5 c).toNat = c.toNat / 8

/-- R54: `c6 = floor((126 * c8 + 255) / 510)`, which is also `floor((63 * c8 + 127) / 255)`; non-decreasing; not the
truncation `c8 >> 2`, at 42 inputs. -/
def Obligations.Channel8ToChannel6Result : Prop :=
  (∀ (c8 : Channel8) (s : State),
    let y : Result := BitVec.ofNat 24 ((126 * c8.toNat + 255) / 510)
    let w := wordOf 5 0 c8.toNat
    exec (.channel8ToChannel6Linear c8) s = .next { s with y := y } ∧
    step { s with opw := w } = .next { opw := w, y := y } ∧
    (126 * c8.toNat + 255) / 510 = (63 * c8.toNat + 127) / 255 ∧
    (126 * c8.toNat + 255) / 510 ≤ 63) ∧
  narrow6 0#8 = 0#6 ∧ narrow6 255#8 = 63#6 ∧ narrow6 130#8 = 32#6 ∧
  (∀ c d : Channel8, c ≤ d → narrow6 c ≤ narrow6 d) ∧
  ((List.range 256).filter (fun x => (narrow6 (BitVec.ofNat 8 x)).toNat != x / 4)).length = 42

/-- R62: U6 reads `GEXP[s8]`; codes 0 to 6 give 0 and 7 to 17 give 1, 255 gives 255; never above the input; 183 outputs
are reached. -/
def Obligations.GammaExpandResult : Prop :=
  (∀ (s8 : Channel8s) (s : State),
    let y : Result := BitVec.ofNat 24 (gexpTable.getD s8.toNat 0)
    let w := wordOf 6 0 s8.toNat
    exec (.srgbGammaExpandLut s8) s = .next { s with y := y } ∧
    step { s with opw := w } = .next { opw := w, y := y } ∧
    gexpTable.getD s8.toNat 0 ≤ s8.toNat ∧
    (s8.toNat ≤ 6 → gexpTable.getD s8.toNat 0 = 0) ∧
    (7 ≤ s8.toNat → s8.toNat ≤ 17 → gexpTable.getD s8.toNat 0 = 1)) ∧
  gammaExpand 255#8 = 255#8 ∧ gammaExpand 190#8 = 131#8 ∧
  gexpTable.length = 256 ∧ gexpTable.dedup.length = 183

/-- R63: U7 reads `GCMP[l8]`; 0 gives 0, 1 gives 13, 255 gives 255; outputs 1 to 12 are never produced; never below the
input; 183 outputs are reached. -/
def Obligations.GammaCompressResult : Prop :=
  (∀ (l8 : Channel8) (s : State),
    let y : Result := BitVec.ofNat 24 (gcmpTable.getD l8.toNat 0)
    let w := wordOf 7 0 l8.toNat
    exec (.srgbGammaCompressLut l8) s = .next { s with y := y } ∧
    step { s with opw := w } = .next { opw := w, y := y } ∧
    l8.toNat ≤ gcmpTable.getD l8.toNat 0 ∧
    ¬ (1 ≤ gcmpTable.getD l8.toNat 0 ∧ gcmpTable.getD l8.toNat 0 ≤ 12)) ∧
  gammaCompress 0#8 = 0#8 ∧ gammaCompress 1#8 = 13#8 ∧ gammaCompress 255#8 = 255#8 ∧ gammaCompress 132#8 = 190#8 ∧
  gcmpTable.length = 256 ∧ gcmpTable.dedup.length = 183

/-- R72: U8 gives the three fields named by colour, in the lanes `y[20:16]`, `y[13:8]` and `y[4:0]`. -/
def Obligations.PixelUnpackResult : Prop :=
  ∀ (order : ComponentOrder) (pix : Pixel) (s : State),
    let high := bitsOf pix.toNat 15 11
    let low := bitsOf pix.toNat 4 0
    let r5 := if orderCode order = 0 then high else low
    let b5 := if orderCode order = 0 then low else high
    let y : Result := BitVec.ofNat 24 (r5 * 2 ^ 16 + bitsOf pix.toNat 10 5 * 2 ^ 8 + b5)
    let w := wordOf 8 (orderCode order) pix.toNat
    exec (.rgb565PixelUnpack order pix) s = .next { s with y := y } ∧
    step { s with opw := w } = .next { opw := w, y := y }

/-- R73: U9 packs `r5*2048 + g6*32 + b5` in RGB565 and `b5*2048 + g6*32 + r5` in BGR565; the sum is the bitwise OR of
the fields and never exceeds 65 535. At the wrapper a byte lane with a bit above its field makes the word reserved. -/
def Obligations.PixelPackResult : Prop :=
  (∀ (order : ComponentOrder) (r5 : Channel5) (g6 : Channel6) (b5 : Channel5) (s : State),
    let high := if orderCode order = 0 then r5.toNat else b5.toNat
    let low := if orderCode order = 0 then b5.toNat else r5.toNat
    let pix := high * 2048 + g6.toNat * 32 + low
    let y : Result := BitVec.ofNat 24 pix
    let w := wordOf 9 (orderCode order) (r5.toNat * 2 ^ 16 + g6.toNat * 2 ^ 8 + b5.toNat)
    exec (.rgb565PixelPack order r5 g6 b5) s = .next { s with y := y } ∧
    step { s with opw := w } = .next { opw := w, y := y } ∧
    pix ≤ 65535 ∧ pix = high <<< 11 ||| g6.toNat <<< 5 ||| low) ∧
  (∀ (order : ComponentOrder) (r g b : Byte) (s : State), ¬ (r.toNat < 32 ∧ g.toNat < 64 ∧ b.toNat < 32) →
    step { s with opw := wordOf 9 (orderCode order) (r.toNat * 2 ^ 16 + g.toNat * 2 ^ 8 + b.toNat) } =
      .refused .reservedOperationWord)

/-- R80: U10 gives `(d mod 256) * 256 + floor(d / 256)`; its fixed points are the values whose two bytes are equal. -/
def Obligations.EndiannessSwapResult : Prop :=
  ∀ (d : BitVec 16) (s : State),
    let q := d.toNat % 256 * 256 + d.toNat / 256
    let y : Result := BitVec.ofNat 24 q
    let w := wordOf 10 0 d.toNat
    exec (.endiannessSwap16b d) s = .next { s with y := y } ∧
    step { s with opw := w } = .next { opw := w, y := y } ∧
    (q = d.toNat ↔ d.toNat % 256 = d.toNat / 256)

/-! ### The whole machine -/

/-- R42: bits of `y` that are not listed for the operation are 0, and the input port is left as the host drives it. -/
def Obligations.UnlistedResultBitsZero : Prop :=
  ∀ (i : Instr) (s : State), ∃ t, exec i s = .next t ∧ t.opw = s.opw ∧ t.y &&& ~~~ resultLanes i = 0#24

/-- R30 (b), R40: the result of an evaluation depends on the operation word alone, not on the output port or on what
was evaluated before. -/
def Obligations.StepDependsOnWordOnly : Prop :=
  ∀ s s' : State, s.opw = s'.opw → step s = step s' ∧ ∀ t, step s = .next t → wrapperY s.opw = some t.y

/-- R145: evaluating one operation before another does not change what the other gives, and evaluating one twice gives
the same result twice. -/
def Obligations.EvaluationsDoNotInterfere : Prop :=
  ∀ (v w : OpWord) (s t : State), step (s.present v) = .next t →
    step (t.present w) = step (s.present w) ∧ step t = .next t

/-- R122: every admitted word is evaluated, in every state; a reserved word is refused, and that is the only other
outcome. -/
def Obligations.AdmittedWordsAreEvaluated : Prop :=
  ∀ s : State,
    (s.Admits → ∃ t, step s = .next t) ∧
    (¬ s.Admits → step s = .refused .reservedOperationWord)

/-- An invariant of every step: whatever the state before, a step leaves the output port settled, that is equal to the
wrapper's function of the word on the input port (R40, R142), with the input port unchanged. -/
def Obligations.StepKeepsSettled : Prop :=
  ∀ s t : State, step s = .next t → t.Settled ∧ t.opw = s.opw

/-- The state after reset is settled. That the input port holds the word 0 there is the model's choice (log 3); that
the output is the function of the input at every time is R142. -/
def Obligations.ResetIsSettled : Prop :=
  State.reset.Settled ∧ State.reset.opw = 0#32 ∧ step State.reset = .next State.reset

/-! ### The constant tables -/

/-- R20, R22: each space has the indices 0 to 255 and no other, its entries are the tables', and every read of an index
returns the entry there. -/
def Obligations.SpacesReadTheirEntries : Prop :=
  (∀ (sp : Space) (a : BitVec 8), sp.cells.read a.toNat = some (memRead sp a)) ∧
  (∀ (sp : Space) (n : Nat), 256 ≤ n → sp.cells.read n = none) ∧
  (∀ a : BitVec 8, gexpTable[a.toNat]? = some (memRead .gexp a).toNat ∧
    gcmpTable[a.toNat]? = some (memRead .gcmp a).toNat)

/-- R64: `GEXP[i] = floor(255 * dec(i/255) + 1/2)` over the reals, for every `i`. -/
def Obligations.GexpIsRoundedDec : Prop :=
  ∀ i : BitVec 8, ((memRead .gexp i).toNat : ℤ) = quantise 255 (dec ((i.toNat : ℝ) / 255))

/-- R65: `GCMP[i] = floor(255 * enc(i/255) + 1/2)` over the reals, for every `i`. -/
def Obligations.GcmpIsRoundedEnc : Prop :=
  ∀ i : BitVec 8, ((memRead .gcmp i).toNat : ℤ) = quantise 255 (enc ((i.toNat : ℝ) / 255))

/-- R66: the exact test for a table entry in rational arithmetic, in both directions. -/
def Obligations.TableEntriesPassExactTest : Prop :=
  memRead .gcmp 0#8 = 0#8 ∧
  (∀ (i : BitVec 8) (k : ℕ), 1 ≤ i.toNat → ((memRead .gcmp i).toNat = k ↔ gcmpTest i.toNat k)) ∧
  (∀ i : BitVec 8, i.toNat ≤ 10 → (memRead .gexp i).toNat = (50 * i.toNat + 323) / 646) ∧
  (∀ (i : BitVec 8) (k : ℕ), 11 ≤ i.toNat → ((memRead .gexp i).toNat = k ↔ gexpTest i.toNat k))

/-- R67: both units are non-decreasing, fix 0 and 255 and lie on either side of the identity, and neither table is the
inverse of the other: each composition fails at 73 values, the first being 75 and 1. -/
def Obligations.GammaTableProperties : Prop :=
  (∀ (i j : BitVec 8) (s : State), i ≤ j →
    ∃ t u v w, exec (.srgbGammaExpandLut i) s = .next t ∧ exec (.srgbGammaExpandLut j) s = .next u ∧
      exec (.srgbGammaCompressLut i) s = .next v ∧ exec (.srgbGammaCompressLut j) s = .next w ∧
      t.y ≤ u.y ∧ v.y ≤ w.y ∧ t.y.toNat ≤ i.toNat ∧ i.toNat ≤ v.y.toNat ∧
      (i = 0#8 → t.y = 0#24 ∧ v.y = 0#24) ∧ (j = 255#8 → u.y = 255#24 ∧ w.y = 255#24)) ∧
  ((List.range 256).filter
    (fun x => gammaExpand (gammaCompress (BitVec.ofNat 8 x)) != BitVec.ofNat 8 x)).length = 73 ∧
  ((List.range 256).filter
    (fun x => gammaCompress (gammaExpand (BitVec.ofNat 8 x)) != BitVec.ofNat 8 x)).length = 73 ∧
  gammaCompress 75#8 = 148#8 ∧ gammaExpand 148#8 = 76#8 ∧
  (∀ i : BitVec 8, i < 75#8 → gammaExpand (gammaCompress i) = i) ∧
  gammaExpand 1#8 = 0#8

/-- R61: `dec` is the inverse of `enc` on each branch, and both fix 0 and 1. -/
def Obligations.DecInvertsEnc : Prop :=
  enc 0 = 0 ∧ enc 1 = 1 ∧ dec 0 = 0 ∧ dec 1 = 1 ∧
  (∀ c : ℝ, 0 ≤ c → c ≤ 0.0031308 → dec (enc c) = c) ∧
  (∀ c : ℝ, 0.0031308 < c → c ≤ 1 → 12.92 * 0.0031308 < enc c → dec (enc c) = c)

/-! ### Laws of the linear scalers -/

/-- R50: each scaler answers the nearest integer to the proportional value, strictly nearer than half, so there is no
tie (R55). -/
def Obligations.ScalersAreNearest : Prop :=
  (∀ (c : Channel5) (s : State), ∃ t, exec (.channel5ToChannel8Linear c) s = .next t ∧
    2 * (255 * c.toNat) < 31 * (2 * t.y.toNat + 1) ∧ 31 * (2 * t.y.toNat) < 2 * (255 * c.toNat) + 31) ∧
  (∀ (c : Channel6) (s : State), ∃ t, exec (.channel6ToChannel8Linear c) s = .next t ∧
    2 * (255 * c.toNat) < 63 * (2 * t.y.toNat + 1) ∧ 63 * (2 * t.y.toNat) < 2 * (255 * c.toNat) + 63) ∧
  (∀ (c : Channel8) (s : State), ∃ t, exec (.channel8ToChannel5Linear c) s = .next t ∧
    2 * (31 * c.toNat) < 255 * (2 * t.y.toNat + 1) ∧ 255 * (2 * t.y.toNat) < 2 * (31 * c.toNat) + 255) ∧
  (∀ (c : Channel8) (s : State), ∃ t, exec (.channel8ToChannel6Linear c) s = .next t ∧
    2 * (63 * c.toNat) < 255 * (2 * t.y.toNat + 1) ∧ 255 * (2 * t.y.toNat) < 2 * (63 * c.toNat) + 255)

/-- R55: `ROUND_MODE` cannot be observed: for every odd divisor, and so for the four scalers at every natural input,
rounding half up and rounding half to even agree. -/
def Obligations.RoundModeUnobservable : Prop :=
  (∀ (mode : RoundMode) (p k : Nat), roundDiv mode p (2 * k + 1) = roundDiv .halfUp p (2 * k + 1)) ∧
  (∀ (mode : RoundMode) (c : Nat),
    scale mode 31 255 c = scale Config.roundMode 31 255 c ∧ scale mode 63 255 c = scale Config.roundMode 63 255 c ∧
    scale mode 255 31 c = scale Config.roundMode 255 31 c ∧ scale mode 255 63 c = scale Config.roundMode 255 63 c)

/-- R57: the shift-and-multiply forms equal what the units answer on every input; bit replication differs exactly at
the listed inputs, and truncation at 52 and 42 inputs. -/
def Obligations.EquivalentFormulas : Prop :=
  (∀ (c : Channel5) (s : State), ∃ t, exec (.channel5ToChannel8Linear c) s = .next t ∧
    t.y.toNat = (c.toNat * 527 + 23) >>> 6 ∧ t.y.toNat = (255 * c.toNat + 15) / 31 ∧
    (t.y.toNat ≠ c.toNat <<< 3 ||| c.toNat >>> 2 ↔ c.toNat ∈ [3, 7, 24, 28])) ∧
  (∀ (c : Channel6) (s : State), ∃ t, exec (.channel6ToChannel8Linear c) s = .next t ∧
    t.y.toNat = (c.toNat * 259 + 33) >>> 6 ∧ t.y.toNat = (255 * c.toNat + 31) / 63 ∧
    (t.y.toNat ≠ c.toNat <<< 2 ||| c.toNat >>> 4 ↔ c.toNat ∈ [11, 12, 13, 14, 15, 48, 49, 50, 51, 52])) ∧
  (∀ (c : Channel8) (s : State), ∃ t, exec (.channel8ToChannel5Linear c) s = .next t ∧
    t.y.toNat = (c.toNat * 249 + 1014) >>> 11 ∧ t.y.toNat = (31 * c.toNat + 127) / 255) ∧
  (∀ (c : Channel8) (s : State), ∃ t, exec (.channel8ToChannel6Linear c) s = .next t ∧
    t.y.toNat = (c.toNat * 253 + 505) >>> 10 ∧ t.y.toNat = (63 * c.toNat + 127) / 255) ∧
  ((List.range 256).filter (fun x => (narrow5 (BitVec.ofNat 8 x)).toNat != x >>> 3)).length = 52 ∧
  ((List.range 256).filter (fun x => (narrow6 (BitVec.ofNat 8 x)).toNat != x >>> 2)).length = 42

/-- R58: narrowing after widening is the identity, as evaluations of the wrapper: the result of U4 on the result of U2,
and of U5 on the result of U3. Widening after narrowing is the identity exactly on the range of the widening. -/
def Obligations.NarrowAfterWiden : Prop :=
  (∀ (c : Channel5) (s t : State), exec (.channel5ToChannel8Linear c) s = .next t →
    exec (.channel8ToChannel5Linear (t.y.extractLsb' 0 8)) t = .next { t with y := BitVec.ofNat 24 c.toNat }) ∧
  (∀ (c : Channel6) (s t : State), exec (.channel6ToChannel8Linear c) s = .next t →
    exec (.channel8ToChannel6Linear (t.y.extractLsb' 0 8)) t = .next { t with y := BitVec.ofNat 24 c.toNat }) ∧
  (∀ x : Channel8, (widen5 (narrow5 x) = x ↔ ∃ c, widen5 c = x) ∧ (widen6 (narrow6 x) = x ↔ ∃ c, widen6 c = x))

/-- R59: the four complete tables are what the units answer, entry by entry, and their sums. -/
def Obligations.LinearTables : Prop :=
  (∀ (c : Channel5) (s : State), ∃ t, exec (.channel5ToChannel8Linear c) s = .next t ∧
    widen5Lut[c.toNat]? = some t.y.toNat) ∧
  (∀ (c : Channel6) (s : State), ∃ t, exec (.channel6ToChannel8Linear c) s = .next t ∧
    widen6Lut[c.toNat]? = some t.y.toNat) ∧
  (∀ (c : Channel8) (s : State), ∃ t, exec (.channel8ToChannel5Linear c) s = .next t ∧
    narrow5Lut[c.toNat]? = some t.y.toNat) ∧
  (∀ (c : Channel8) (s : State), ∃ t, exec (.channel8ToChannel6Linear c) s = .next t ∧
    narrow6Lut[c.toNat]? = some t.y.toNat) ∧
  widen5Lut.sum = 4080 ∧ widen6Lut.sum = 8160 ∧ narrow5Lut.sum = 3968 ∧ narrow6Lut.sum = 8064

/-! ### Laws of the pixel units and the byte swap -/

/-- R74: U8 is U0 and U1 side by side, as evaluations: its lanes hold their results, red from the high field in RGB565
and from the low field in BGR565. -/
def Obligations.UnpackIsSideBySide : Prop :=
  ∀ (pix : Pixel) (s t hi lo mid : State),
    exec (.rgb565UnpackChannel5 .hi pix) s = .next hi → exec (.rgb565UnpackChannel5 .lo pix) s = .next lo →
    exec (.rgb565UnpackChannel6 pix) s = .next mid →
    (exec (.rgb565PixelUnpack .rgb565 pix) s = .next t →
      t.y.toNat = hi.y.toNat * 2 ^ 16 + mid.y.toNat * 2 ^ 8 + lo.y.toNat) ∧
    (exec (.rgb565PixelUnpack .bgr565 pix) s = .next t →
      t.y.toNat = lo.y.toNat * 2 ^ 16 + mid.y.toNat * 2 ^ 8 + hi.y.toNat)

/-- R75: packing after unpacking in one order gives the pixel back, and unpacking after packing gives the three
channels back, as evaluations of the wrapper. -/
def Obligations.PackUnpackInverse : Prop :=
  (∀ (order : ComponentOrder) (w : Pixel) (s t : State), exec (.rgb565PixelUnpack order w) s = .next t →
    exec (.rgb565PixelPack order (tripleOfResult t.y).r5 (tripleOfResult t.y).g6 (tripleOfResult t.y).b5) t =
      .next { t with y := BitVec.ofNat 24 w.toNat }) ∧
  (∀ (order : ComponentOrder) (f : FieldTriple) (s t : State),
    exec (.rgb565PixelPack order f.r5 f.g6 f.b5) s = .next t →
    ∃ u, exec (.rgb565PixelUnpack order (t.y.extractLsb' 0 16)) t = .next u ∧ tripleOfResult u.y = f)

/-- R76: changing the order exchanges red and blue, both ways, and unpacking in one order and packing in the other
gives `{w[4:0], w[10:5], w[15:11]}`. -/
def Obligations.OrderExchangesRedAndBlue : Prop :=
  (∀ w : Pixel, pixelUnpack .bgr565 w =
    { r5 := (pixelUnpack .rgb565 w).b5, g6 := (pixelUnpack .rgb565 w).g6, b5 := (pixelUnpack .rgb565 w).r5 }) ∧
  (∀ t : FieldTriple, pixelPack .bgr565 t = pixelPack .rgb565 { r5 := t.b5, g6 := t.g6, b5 := t.r5 }) ∧
  (∀ w : Pixel,
    let x := bitsOf w.toNat 4 0 * 2048 + bitsOf w.toNat 10 5 * 32 + bitsOf w.toNat 15 11
    (pixelPack .bgr565 (pixelUnpack .rgb565 w)).toNat = x ∧ (pixelPack .rgb565 (pixelUnpack .bgr565 w)).toNat = x)

/-- R81: U10 is its own inverse, as two evaluations. -/
def Obligations.SwapTwiceIsIdentity : Prop :=
  ∀ (d : BitVec 16) (s t : State), exec (.endiannessSwap16b d) s = .next t →
    exec (.endiannessSwap16b (t.y.extractLsb' 0 16)) t = .next { t with y := BitVec.ofNat 24 d.toNat }

/-- R24: the two readings of a byte pair as numbers, and the byte pair of a value in either order. -/
def Obligations.BytePairReadings : Prop :=
  (∀ p : BytePair, (valueLe p).toNat = p.b1.toNat * 256 + p.b0.toNat ∧
    (valueBe p).toNat = p.b0.toNat * 256 + p.b1.toNat ∧
    bytesLe (valueLe p) = p ∧ bytesBe (valueBe p) = p) ∧
  (∀ w : BitVec 16, (bytesLe w).b0.toNat = bitsOf w.toNat 7 0 ∧ (bytesLe w).b1.toNat = bitsOf w.toNat 15 8 ∧
    (bytesBe w).b0.toNat = bitsOf w.toNat 15 8 ∧ (bytesBe w).b1.toNat = bitsOf w.toNat 7 0) ∧
  (∀ b0 b1 : Byte, valueBe { b0 := b1, b1 := b0 } = valueLe { b0 := b0, b1 := b1 })

/-- R82: U10 converts between the two readings of a byte pair, and gives the big-endian bytes of a value. -/
def Obligations.SwapConvertsReadings : Prop :=
  (∀ (p : BytePair) (s : State),
    exec (.endiannessSwap16b (valueLe p)) s = .next { s with y := (valueBe p).setWidth 24 } ∧
    exec (.endiannessSwap16b (valueBe p)) s = .next { s with y := (valueLe p).setWidth 24 } ∧
    valueBe p = valueLe { b0 := p.b1, b1 := p.b0 }) ∧
  (∀ w : BitVec 16, bytesBe w = bytesLe (endiannessSwap w))

/-! ### The compositions -/

/-- R85 to R88: the lines of each sRGB channel conversion, run by the host on a block in any state, bind a table read of
the scaler's result or the scaler of a table read; with the corner cases the rules give. -/
def Obligations.SrgbChannelExpansions : Prop :=
  (∀ b : State,
    (∀ c : Channel5, ∃ h, runLines { env := [], block := b } (linesExpand5Srgb c) = .ok h ∧
      lookupName h.env "s" = some (.scalar (expand5Srgb c).toNat) ∧ expand5Srgb c = memRead .gcmp (widen5 c)) ∧
    (∀ c : Channel6, ∃ h, runLines { env := [], block := b } (linesExpand6Srgb c) = .ok h ∧
      lookupName h.env "s" = some (.scalar (expand6Srgb c).toNat) ∧ expand6Srgb c = memRead .gcmp (widen6 c)) ∧
    (∀ s : Channel8s, ∃ h, runLines { env := [], block := b } (linesContract5Srgb s) = .ok h ∧
      lookupName h.env "c" = some (.scalar (contract5Srgb s).toNat) ∧
      contract5Srgb s = narrow5 (memRead .gexp s)) ∧
    (∀ s : Channel8s, ∃ h, runLines { env := [], block := b } (linesContract6Srgb s) = .ok h ∧
      lookupName h.env "c" = some (.scalar (contract6Srgb s).toNat) ∧
      contract6Srgb s = narrow6 (memRead .gexp s))) ∧
  expand5Srgb 0#5 = 0#8 ∧ expand5Srgb 31#5 = 255#8 ∧ expand6Srgb 0#6 = 0#8 ∧ expand6Srgb 63#6 = 255#8 ∧
  contract5Srgb 255#8 = 31#5 ∧ contract6Srgb 255#8 = 63#6 ∧
  (∀ c d : Channel5, c < d → expand5Srgb c < expand5Srgb d) ∧
  (∀ c d : Channel6, c < d → expand6Srgb c < expand6Srgb d) ∧
  (∀ s u : Channel8s, s ≤ u → contract5Srgb s ≤ contract5Srgb u ∧ contract6Srgb s ≤ contract6Srgb u) ∧
  (∀ s : Channel8s, (s ≤ 36#8 → contract5Srgb s = 0#5) ∧ (s ≤ 25#8 → contract6Srgb s = 0#6))

/-- R89: the lines of `decode`, run on the byte pair's bus value, bind the triple of `U8` on the pair's value in its
endianness. R90: those of `encode` bind the bus value whose byte lanes hold the bytes of the packed pixel. -/
def Obligations.DecodeEncodeExpansions : Prop :=
  ∀ (b : State) (order : ComponentOrder) (e : Endianness),
    (∀ p : BytePair, ∃ h, runLines { env := [], block := b } (linesDecode (busValue p) order e) = .ok h ∧
      lookupName h.env "t" = some (.triple (pixelDecode p order e)) ∧
      pixelDecode p order e = pixelUnpack order (if e.toBit = 0#1 then valueLe p else valueBe p)) ∧
    (∀ t : FieldTriple, ∃ h v, runLines { env := [], block := b } (linesEncode t order e) = .ok h ∧
      lookupName h.env "v" = some (.scalar v) ∧ busBytes (BitVec.ofNat 16 v) = pixelEncode t order e ∧
      pixelEncode t order e = if e.toBit = 0#1 then bytesLe (pixelPack order t) else bytesBe (pixelPack order t))

/-- R92 to R96: the lines of each whole-pixel conversion and of the endianness conversion of a byte pair (R96 (a)), run by
the host on a block in any state, bind the components, the pixel or the bytes of the composition. -/
def Obligations.PixelExpansions : Prop :=
  ∀ (b : State) (order : ComponentOrder),
    (∀ p : BytePair, ∃ h v, runLines { env := [], block := b } (linesSwapBytes (busValue p)) = .ok h ∧
      lookupName h.env "v2" = some (.scalar v) ∧ busBytes (BitVec.ofNat 16 v) = swapBytes p ∧
      swapBytes p = { b0 := p.b1, b1 := p.b0 }) ∧
    (∀ w : Pixel, ∃ h, runLines { env := [], block := b } (linesPixelToRgb888 w order) = .ok h ∧
      lookupName h.env "R" = some (.scalar (pixelToRgb888 w order).r.toNat) ∧
      lookupName h.env "G" = some (.scalar (pixelToRgb888 w order).g.toNat) ∧
      lookupName h.env "B" = some (.scalar (pixelToRgb888 w order).b.toNat)) ∧
    (∀ w : Pixel, ∃ h, runLines { env := [], block := b } (linesPixelToSrgb888 w order) = .ok h ∧
      lookupName h.env "Rs" = some (.scalar (pixelToSrgb888 w order).r.toNat) ∧
      lookupName h.env "Gs" = some (.scalar (pixelToSrgb888 w order).g.toNat) ∧
      lookupName h.env "Bs" = some (.scalar (pixelToSrgb888 w order).b.toNat)) ∧
    (∀ t : Rgb888, ∃ h, runLines { env := [], block := b } (linesRgb888ToPixel t order) = .ok h ∧
      lookupName h.env "w" = some (.scalar (rgb888ToPixel t order).toNat)) ∧
    (∀ t : Srgb888, ∃ h, runLines { env := [], block := b } (linesSrgb888ToPixel t order) = .ok h ∧
      lookupName h.env "w" = some (.scalar (srgb888ToPixel t order).toNat)) ∧
    (∀ (p : BytePair) (o2 : ComponentOrder) (e1 e2 : Endianness), ∃ h v,
      runLines { env := [], block := b } (linesBytesToBytes (busValue p) order e1 o2 e2) = .ok h ∧
      lookupName h.env "v2" = some (.scalar v) ∧ busBytes (BitVec.ofNat 16 v) = bytesToBytes order e1 o2 e2 p)

/-- R97: the complete tables of the two-stage sRGB compositions are what their lines bind, run by the host on a block
in any state. -/
def Obligations.SrgbTables : Prop :=
  ∀ b : State,
    (∀ c : Channel5, ∃ h, runLines { env := [], block := b } (linesExpand5Srgb c) = .ok h ∧
      lookupName h.env "s" = expand5SrgbLut[c.toNat]?.map .scalar) ∧
    (∀ c : Channel6, ∃ h, runLines { env := [], block := b } (linesExpand6Srgb c) = .ok h ∧
      lookupName h.env "s" = expand6SrgbLut[c.toNat]?.map .scalar) ∧
    (∀ s : Channel8s, ∃ h, runLines { env := [], block := b } (linesContract5Srgb s) = .ok h ∧
      lookupName h.env "c" = contract5SrgbLut[s.toNat]?.map .scalar) ∧
    (∀ s : Channel8s, ∃ h, runLines { env := [], block := b } (linesContract6Srgb s) = .ok h ∧
      lookupName h.env "c" = contract6SrgbLut[s.toNat]?.map .scalar)

/-- R98: the single-round tables are the real-valued definitions, rounded once. They are not this block's behaviour. -/
def Obligations.SingleRoundDefinitions : Prop :=
  (∀ c : Channel5, ((expand5SrgbOn .singleRound c).toNat : ℤ) = quantise 255 (enc ((c.toNat : ℝ) / 31))) ∧
  (∀ c : Channel6, ((expand6SrgbOn .singleRound c).toNat : ℤ) = quantise 255 (enc ((c.toNat : ℝ) / 63))) ∧
  (∀ s : Channel8s, ((contract5SrgbOn .singleRound s).toNat : ℤ) = quantise 31 (dec ((s.toNat : ℝ) / 255))) ∧
  (∀ s : Channel8s, ((contract6SrgbOn .singleRound s).toNat : ℤ) = quantise 63 (dec ((s.toNat : ℝ) / 255)))

/-- R98: the two readings differ at the listed inputs and nowhere else. -/
def Obligations.SrgbPathDifferences : Prop :=
  (∀ c : Channel5, expand5SrgbOn .singleRound c ≠ expand5SrgbOn .twoStage c ↔ c.toNat ∈ [2, 6, 11, 17, 23]) ∧
  (∀ c : Channel6, expand6SrgbOn .singleRound c ≠ expand6SrgbOn .twoStage c ↔
    c.toNat ∈ [3, 5, 6, 7, 8, 9, 10, 11, 13, 22, 29, 33, 37, 53]) ∧
  (∀ s : Channel8s, contract5SrgbOn .singleRound s ≠ contract5SrgbOn .twoStage s ↔
    s.toNat ∈ [35, 36, 94, 107, 117, 170, 182, 203, 242]) ∧
  (∀ s : Channel8s, contract6SrgbOn .singleRound s ≠ contract6SrgbOn .twoStage s ↔
    s.toNat ∈ [22, 23, 24, 25, 43, 44, 57, 67, 76, 97, 123, 151, 158, 205, 212, 221, 243, 254])

/-- R91: the lines of `swap_components` bind a pixel with the two 5-bit fields exchanged and green kept; unpacking as BGR565
and packing as RGB565 gives the same (and R103: so does reading the swapped pixel as RGB565); it is an involution, and
fixes exactly the pixels whose two 5-bit fields are equal; its table gives the same; on a byte pair the value is formed
and the result serialised with one endianness. That the swapped pixel read as RGB565 gives the colours of the pixel read
as BGR565 is a consequence the spec marks as derived, and the table clause rests on the model's choice of log 14 (the
table is generated from the function it caches). -/
def Obligations.SwapComponentsLaws : Prop :=
  (∀ w : Pixel,
    (∀ b : State, ∃ h, runLines { env := [], block := b } (linesSwapComponents w) = .ok h ∧
      lookupName h.env "w2" = some (.scalar (swapComponents w).toNat)) ∧
    (swapComponents w).toNat =
      bitsOf w.toNat 4 0 * 2048 + bitsOf w.toNat 10 5 * 32 + bitsOf w.toNat 15 11 ∧
    swapComponents w = pixelPack .rgb565 (pixelUnpack .bgr565 w) ∧
    pixelUnpack .bgr565 w = pixelUnpack .rgb565 (swapComponents w) ∧
    swapComponents (swapComponents w) = w ∧
    (swapComponents w = w ↔ bitsOf w.toNat 4 0 = bitsOf w.toNat 15 11) ∧
    (∀ st : LutStrategy, swapComponentsBy st w = swapComponents w)) ∧
  (∀ p : BytePair, swapComponentsBytes .little p = bytesLe (swapComponents (valueLe p)) ∧
    swapComponentsBytes .big p = bytesBe (swapComponents (valueBe p)))

/-- R96: endianness conversion alone exchanges the two bytes; with the same order and endianness on both sides the
result is the input; order conversion alone is `swap_components` with the buffer's endianness; every one of the sixteen
conversions is a bijection on byte pairs, undone by the reverse one. -/
def Obligations.BytesToBytesLaws : Prop :=
  (∀ p : BytePair, swapBytes p = { b0 := p.b1, b1 := p.b0 }) ∧
  (∀ (o : ComponentOrder) (e : Endianness) (p : BytePair), bytesToBytes o e o e p = p) ∧
  (∀ (o1 o2 : ComponentOrder) (e : Endianness) (p : BytePair), o1 ≠ o2 →
    bytesToBytes o1 e o2 e p = swapComponentsBytes e p) ∧
  (∀ (o1 o2 : ComponentOrder) (e1 e2 : Endianness) (p : BytePair),
    bytesToBytes o2 e2 o1 e1 (bytesToBytes o1 e1 o2 e2 p) = p) ∧
  (∀ (o1 o2 : ComponentOrder) (e1 e2 : Endianness), Function.Bijective (bytesToBytes o1 e1 o2 e2))

/-- R100: `encode` inverts `decode` on byte pairs and `decode` inverts `encode` on triples, for each order and
endianness. -/
def Obligations.RoundTripOnBytePairs : Prop :=
  ∀ (order : ComponentOrder) (e : Endianness),
    (∀ p : BytePair, pixelEncode (pixelDecode p order e) order e = p) ∧
    (∀ t : FieldTriple, pixelDecode (pixelEncode t order e) order e = t)

/-- R102: decoding reversed bytes as big-endian equals decoding the bytes as little-endian, and the big-endian bytes of
a pixel are its little-endian bytes reversed. -/
def Obligations.EndiannessSymmetry : Prop :=
  ∀ order : ComponentOrder,
    (∀ b0 b1 : Byte, pixelDecode { b0 := b1, b1 := b0 } order (.ofBit 1#1) =
      pixelDecode { b0 := b0, b1 := b1 } order (.ofBit 0#1)) ∧
    (∀ t : FieldTriple, (pixelEncode t order (.ofBit 1#1)).b0 = (pixelEncode t order (.ofBit 0#1)).b1 ∧
      (pixelEncode t order (.ofBit 1#1)).b1 = (pixelEncode t order (.ofBit 0#1)).b0)

/-- R107: narrowing after widening is the identity on the sRGB path, under both readings, and whole pixels survive the
way to sRGB888 and back and to RGB888 and back, in either order. -/
def Obligations.WholePixelsSurvive : Prop :=
  (∀ (path : SrgbPath) (c : Channel5), contract5SrgbOn path (expand5SrgbOn path c) = c) ∧
  (∀ (path : SrgbPath) (c : Channel6), contract6SrgbOn path (expand6SrgbOn path c) = c) ∧
  (∀ (order : ComponentOrder) (w : Pixel), srgb888ToPixel (pixelToSrgb888 w order) order = w ∧
    rgb888ToPixel (pixelToRgb888 w order) order = w)

/-- R106: running the lines of the sRGB widening, its value `s` is above the linear value `t` strictly inside the range
and equal to it at the two ends; 16 gives 132 and 190. -/
def Obligations.SrgbAboveLinear : Prop :=
  (∀ (b : State) (c : Channel5), ∃ h x y, runLines { env := [], block := b } (linesExpand5Srgb c) = .ok h ∧
    lookupName h.env "t" = some (.scalar x) ∧ lookupName h.env "s" = some (.scalar y) ∧
    x ≤ y ∧ (x = y ↔ c = 0#5 ∨ c = 31#5) ∧ (c = 16#5 → x = 132 ∧ y = 190)) ∧
  (∀ (b : State) (c : Channel6), ∃ h x y, runLines { env := [], block := b } (linesExpand6Srgb c) = .ok h ∧
    lookupName h.env "t" = some (.scalar x) ∧ lookupName h.env "s" = some (.scalar y) ∧
    x ≤ y ∧ (x = y ↔ c = 0#6 ∨ c = 63#6))

/-- R101, R108: whichever of the thirteen tables a build enables, every operation gives the same outputs: those of the
rules. That the switches are an argument, and that the five whole-pixel tables are generated from the functions they
cache, is the model's DESIGN CHOICE of log 14; the eight channel tables are those the spec prints. -/
def Obligations.LutStrategyUnobservable : Prop :=
  ∀ st : LutStrategy,
    (∀ c, widen5By st c = widen5 c) ∧ (∀ c, widen6By st c = widen6 c) ∧
    (∀ c, narrow5By st c = narrow5 c) ∧ (∀ c, narrow6By st c = narrow6 c) ∧
    (∀ c, expand5SrgbBy st c = expand5Srgb c) ∧ (∀ c, expand6SrgbBy st c = expand6Srgb c) ∧
    (∀ s, contract5SrgbBy st s = contract5Srgb s) ∧ (∀ s, contract6SrgbBy st s = contract6Srgb s) ∧
    (∀ w, swapComponentsBy st w = swapComponents w) ∧
    (∀ w o, pixelToRgb888By st w o = pixelToRgb888 w o) ∧ (∀ w o, pixelToSrgb888By st w o = pixelToSrgb888 w o) ∧
    (∀ t o, rgb888ToPixelBy st t o = rgb888ToPixel t o) ∧ (∀ t o, srgb888ToPixelBy st t o = srgb888ToPixel t o)

/-- The byte forms of the four whole-pixel conversions: R92 and R93 with the byte handling of R89 before them, R94 and R95
with that of R90 after them, so each is the pixel conversion at `value_le` or `value_be`, and `bytes_le` or `bytes_be` of
its pixel; and every byte pair survives the way to a triple and back, linear and sRGB. The spec gives these forms in words
only: writing them out as four functions is the model's DESIGN CHOICE of log 17. -/
def Obligations.ByteFormsOfConversions : Prop :=
  ∀ (order : ComponentOrder) (e : Endianness),
    (∀ p : BytePair,
      let w := if e.toBit = 0#1 then valueLe p else valueBe p
      bytesToRgb888 p order e = pixelToRgb888 w order ∧ bytesToSrgb888 p order e = pixelToSrgb888 w order) ∧
    (∀ t : Rgb888, rgb888ToBytes t order e =
      if e.toBit = 0#1 then bytesLe (rgb888ToPixel t order) else bytesBe (rgb888ToPixel t order)) ∧
    (∀ t : Srgb888, srgb888ToBytes t order e =
      if e.toBit = 0#1 then bytesLe (srgb888ToPixel t order) else bytesBe (srgb888ToPixel t order)) ∧
    (∀ p : BytePair, rgb888ToBytes (bytesToRgb888 p order e) order e = p ∧
      srgb888ToBytes (bytesToSrgb888 p order e) order e = p)

/-- R123, R149: none of the thirteen tables of R23 has the defect the document names, a table that disagrees with its
arithmetic path: each covers its whole domain and holds the function's value at every input. The eight channel tables are
those the spec prints; the five whole-pixel tables, for each order where the function takes one, are generated by the
model's DESIGN CHOICE of log 14. The model's other tables have statements of their own: `GexpIsRoundedDec`,
`GcmpIsRoundedEnc` and, for those of the other reading of R98, `SingleRoundDefinitions`. -/
def Obligations.TablesHaveNoDefect : Prop :=
  TableAgrees (generated 16 swapComponents) swapComponents ∧
  TableAgrees widen5Lut (fun c : Channel5 => (widen5 c).toNat) ∧
  TableAgrees widen6Lut (fun c : Channel6 => (widen6 c).toNat) ∧
  TableAgrees expand5SrgbLut (fun c : Channel5 => (expand5Srgb c).toNat) ∧
  TableAgrees expand6SrgbLut (fun c : Channel6 => (expand6Srgb c).toNat) ∧
  TableAgrees narrow5Lut (fun c : Channel8 => (narrow5 c).toNat) ∧
  TableAgrees narrow6Lut (fun c : Channel8 => (narrow6 c).toNat) ∧
  TableAgrees contract5SrgbLut (fun s : Channel8s => (contract5Srgb s).toNat) ∧
  TableAgrees contract6SrgbLut (fun s : Channel8s => (contract6Srgb s).toNat) ∧
  ∀ order : ComponentOrder,
    TableAgrees (generated 16 (pixelToRgb888 · order)) (pixelToRgb888 · order) ∧
    TableAgrees (generated 16 (pixelToSrgb888 · order)) (pixelToSrgb888 · order) ∧
    (∀ t : Rgb888, (generated 24 (fun v => rgb888ToPixel (rgb888OfBits v) order))[(rgb888Bits t).toNat]? =
      some (rgb888ToPixel t order)) ∧
    (∀ t : Srgb888, (generated 24 (fun v => srgb888ToPixel (srgb888OfBits v) order))[(srgb888Bits t).toNat]? =
      some (srgb888ToPixel t order)) ∧
    (generated 24 (fun v => rgb888ToPixel (rgb888OfBits v) order)).length = 2 ^ 24 ∧
    (generated 24 (fun v => srgb888ToPixel (srgb888OfBits v) order)).length = 2 ^ 24

/-! ### Programs -/

/-- R47, R46: a line builds a word exactly when it writes an operation: its mnemonic, its mode, and arguments that stand
for that operation's operands; the word is that operation's. Where the mode is one that R46 allows and there is one
argument for each operand lane, each a number below `2^width`, there is such an operation, so the line builds its word.
The word is admitted: no line can produce a reserved word when every argument fits its port. Two conventions of the model
stand in this and are not the spec's words: that a line whose argument does not fit, a named value among them, has no
word at all, so that no line whatever produces a reserved one (DESIGN CHOICE, log 8); and that a name bound to a triple
stands, as a plain argument, for the 24-bit `y` (DEDUCED, log 9, unsafe). -/
def Obligations.LinesBuildAdmittedWords : Prop :=
  (∀ (env : Env) (l : Line) (w : OpWord), l.word env = .ok w ↔
    ∃ i ns, lineForm i = (l.mnemonic, l.mode, ns) ∧ l.numbers env ns ∧ w = encode i) ∧
  (∀ (env : Env) (l : Line) (ns : List Nat), l.mnemonic.allows l.mode → l.numbers env ns →
    List.Forall₂ (fun n lane => n < 2 ^ lane.1) ns l.mnemonic.lanes →
    ∃ i, lineForm i = (l.mnemonic, l.mode, ns) ∧ l.word env = .ok (encode i)) ∧
  (∀ (env : Env) (l : Line) (w : OpWord), l.word env = .ok w →
    ∃ i, decode w = some i ∧ i.opCode.toNat = l.mnemonic.row)

/-- A line binds its one name, which no earlier line has bound, and leaves every other name's value (R46); what it
binds depends on the earlier names alone, not on the state of the block (R18). -/
def Obligations.LineBindsOneName : Prop :=
  ∀ (h h' : HostState) (l : Line), evalLine h l = .ok h' →
    lookupName h.env l.name = none ∧ (∃ v, lookupName h'.env l.name = some v) ∧
    (∀ x, x ≠ l.name → lookupName h'.env x = lookupName h.env x) ∧
    (∀ b : State, ∃ b', evalLine { env := h.env, block := b } l = .ok { env := h'.env, block := b' })

/-- Two neighbouring lines of which the second does not use the first's name may be exchanged: every name has the same
value after both (R145: the order of evaluations may be permuted wherever no name is used before it is bound; R99). -/
def Obligations.IndependentLinesCommute : Prop :=
  ∀ (h a : HostState) (l m : Line), m.mentions l.name = false → runLines h [l, m] = .ok a →
    ∃ b, runLines h [m, l] = .ok b ∧ ∀ x, lookupName b.env x = lookupName a.env x
end

