-- ==== Sys2Proof/Laws/Bits.lean ====
section
/-! SUPPORT. Concatenation and field extraction as arithmetic, the notation of spec/00_scope.md rule R8. -/

namespace Sys2Proof.Laws

/-- `{x, y} = x * 2^n + y` with `y` of `n` bits (R8). -/
theorem toNat_concat {m n : Nat} (x : BitVec m) (y : BitVec n) :
    (x ++ y).toNat = x.toNat * 2 ^ n + y.toNat := by
  rw [BitVec.toNat_append, ← Nat.shiftLeft_add_eq_or_of_lt y.isLt, Nat.shiftLeft_eq]

/-- `v[lo + w - 1 : lo] = (v >> lo) mod 2^w` (R8). -/
theorem toNat_field {n : Nat} (v : BitVec n) (lo w : Nat) :
    (v.extractLsb' lo w).toNat = v.toNat / 2 ^ lo % 2 ^ w := by
  simp [BitVec.extractLsb'_toNat, Nat.shiftRight_eq_div_pow]

end Sys2Proof.Laws
end

