-- ==== Sys2Proof/Laws/Encoding.lean ====
section
/-! SUPPORT. The fields of an assembled word, and decoding as a function of the fields. -/

namespace Sys2Proof

open Sys2Proof.Laws

@[simp] theorem OpWord.opField_assemble (op : BitVec 4) (m : BitVec 1) (z : BitVec 3) (a : Operand) :
    (OpWord.assemble op m z a).opField = op := by
  apply BitVec.eq_of_toNat_eq
  simp only [OpWord.opField, OpWord.assemble, toNat_field, toNat_concat]
  omega

@[simp] theorem OpWord.modeField_assemble (op : BitVec 4) (m : BitVec 1) (z : BitVec 3) (a : Operand) :
    (OpWord.assemble op m z a).modeField = m := by
  apply BitVec.eq_of_toNat_eq
  simp only [OpWord.modeField, OpWord.assemble, toNat_field, toNat_concat]
  omega

@[simp] theorem OpWord.zeroField_assemble (op : BitVec 4) (m : BitVec 1) (z : BitVec 3) (a : Operand) :
    (OpWord.assemble op m z a).zeroField = z := by
  apply BitVec.eq_of_toNat_eq
  simp only [OpWord.zeroField, OpWord.assemble, toNat_field, toNat_concat]
  omega

@[simp] theorem OpWord.operandField_assemble (op : BitVec 4) (m : BitVec 1) (z : BitVec 3) (a : Operand) :
    (OpWord.assemble op m z a).operandField = a := by
  apply BitVec.eq_of_toNat_eq
  simp only [OpWord.operandField, OpWord.assemble, toNat_field, toNat_concat]
  omega

/-- A word is its four fields (R40). -/
theorem OpWord.assemble_fields (w : OpWord) :
    OpWord.assemble w.opField w.modeField w.zeroField w.operandField = w := by
  apply BitVec.eq_of_toNat_eq
  simp only [OpWord.opField, OpWord.modeField, OpWord.zeroField, OpWord.operandField, OpWord.assemble, toNat_field,
    toNat_concat]
  omega

/-- The word as a number: `OP * 2^28 + M * 2^27 + Z * 2^24 + A` (R40). -/
theorem OpWord.toNat_assemble (op : BitVec 4) (m : BitVec 1) (z : BitVec 3) (a : Operand) :
    (OpWord.assemble op m z a).toNat = op.toNat * 2 ^ 28 + m.toNat * 2 ^ 27 + z.toNat * 2 ^ 24 + a.toNat := by
  simp only [OpWord.assemble, toNat_concat]
  omega

/-- Decoding an assembled word. -/
theorem decode_assemble (op : BitVec 4) (m : BitVec 1) (z : BitVec 3) (a : Operand) :
    decode (OpWord.assemble op m z a) = decodeFields op m z a := by
  simp [decode]

@[simp] theorem FieldSel.ofBit_toBit (s : FieldSel) : FieldSel.ofBit s.toBit = s := by cases s <;> rfl

@[simp] theorem ComponentOrder.ofBit_toBit (o : ComponentOrder) : ComponentOrder.ofBit o.toBit = o := by
  cases o <;> rfl

@[simp] theorem Endianness.ofBit_toBit (e : Endianness) : Endianness.ofBit e.toBit = e := by cases e <;> rfl

theorem FieldSel.toBit_ofBit (m : BitVec 1) : (FieldSel.ofBit m).toBit = m := by
  revert m; decide

theorem ComponentOrder.toBit_ofBit (m : BitVec 1) : (ComponentOrder.ofBit m).toBit = m := by
  revert m; decide

theorem Endianness.toBit_ofBit (m : BitVec 1) : (Endianness.ofBit m).toBit = m := by
  revert m; decide

end Sys2Proof
end

