-- ==== Sys2Proof/Laws/State.lean ====
section
/-! SUPPORT. One lemma per field per update of the state. -/

namespace Sys2Proof.Machine

@[simp] theorem State.driveY_opw (s : State) (y : Result) : (s.driveY y).opw = s.opw := rfl
@[simp] theorem State.driveY_y (s : State) (y : Result) : (s.driveY y).y = y := rfl
@[simp] theorem State.present_opw (s : State) (w : OpWord) : (s.present w).opw = w := rfl
@[simp] theorem State.present_y (s : State) (w : OpWord) : (s.present w).y = s.y := rfl
@[simp] theorem State.driveY_driveY (s : State) (y z : Result) : (s.driveY y).driveY z = s.driveY z := rfl
@[simp] theorem State.present_present (s : State) (w v : OpWord) : (s.present w).present v = s.present v := rfl
@[simp] theorem State.driveY_present (s : State) (y : Result) (w : OpWord) :
    (s.driveY y).present w = (s.present w).driveY y := rfl
@[simp] theorem State.present_self (s : State) : s.present s.opw = s := rfl
@[simp] theorem State.driveY_self (s : State) : s.driveY s.y = s := rfl
@[simp] theorem State.withFetchWord_opw (s : State) (nbits w : Nat) :
    (s.withFetchWord nbits w).opw = BitVec.ofNat 32 (w % 2 ^ nbits) := rfl
@[simp] theorem State.withFetchWord_y (s : State) (nbits w : Nat) : (s.withFetchWord nbits w).y = s.y := rfl

/-- Two states are equal if their ports are. -/
theorem State.eq_of_ports {s t : State} (h : s.opw = t.opw) (g : s.y = t.y) : s = t := by
  cases s; cases t; simp_all

end Sys2Proof.Machine
end

