-- ==== Sys2Proof/Laws/Exec.lean ====
section
/-! SUPPORT. Everything an operation and a step can do, said once. -/

namespace Sys2Proof.Machine

/-- Every operation answers a next state in which only the output port is driven, with a value that is the same in
every state. -/
theorem exec_drives (i : Instr) : ∃ v : Result, ∀ s : State, exec i s = .next (s.driveY v) := by
  cases i <;> exact ⟨_, fun _ => rfl⟩

/-- A step on a word that decodes to `i` is `exec i`. -/
theorem step_of_decode {s : State} {i : Instr} (h : decode s.opw = some i) : step s = exec i s := by
  simp [step, h]

/-- A step on a reserved word is refused. -/
theorem step_of_reserved {s : State} (h : decode s.opw = none) : step s = .refused .reservedOperationWord := by
  simp [step, h]

/-- The one way a step answers a next state. -/
theorem step_next {s t : State} (h : step s = .next t) :
    ∃ i, decode s.opw = some i ∧ exec i s = .next t ∧ t.opw = s.opw := by
  cases hd : decode s.opw with
  | none => rw [step_of_reserved hd] at h; cases h
  | some i =>
    rw [step_of_decode hd] at h
    obtain ⟨v, hv⟩ := exec_drives i
    refine ⟨i, rfl, h, ?_⟩
    rw [hv] at h
    cases h
    rfl

end Sys2Proof.Machine
end

