-- ==== Sys2Proof/Laws/Ops.lean ====
section
/-! SUPPORT. One lemma for each shared operation that says what it answers. -/

namespace Sys2Proof.Machine

open Sys2Proof.Laws

/-! ### Rounded division -/

/-- `round_half_up(p, q) = k` exactly when `p / q` lies in `[k - 1/2, k + 1/2)` (R8). -/
theorem roundHalfUp_eq_iff {p q k : Nat} (hq : 0 < q) :
    roundHalfUp p q = k ↔ 2 * k * q ≤ 2 * p + q ∧ 2 * p < (2 * k + 1) * q := by
  have h : roundHalfUp p q = k ↔ k * (2 * q) ≤ 2 * p + q ∧ 2 * p + q < (k + 1) * (2 * q) := by
    unfold roundHalfUp
    rw [Nat.div_eq_iff (by omega)]
    have : 1 ≤ (k + 1) * (2 * q) := Nat.mul_pos (by omega) (by omega)
    have e : k * (2 * q) + 2 * q = (k + 1) * (2 * q) := by ring
    omega
  rw [h]
  have e1 : k * (2 * q) = 2 * k * q := by ring
  have e2 : (k + 1) * (2 * q) = (2 * k + 1) * q + q := by ring
  omega

/-- Where `p / q` is at no half-integer, rounding to even is rounding half up. -/
theorem roundHalfToEven_of_no_tie {p q : Nat} (hq : 0 < q) (h : 2 * (p % q) ≠ q) :
    roundHalfToEven p q = roundHalfUp p q := by
  symm
  rw [roundHalfUp_eq_iff hq]
  have e := Nat.div_add_mod p q
  have r := Nat.mod_lt p hq
  unfold roundHalfToEven
  have e1 : 2 * (p / q) * q = 2 * (q * (p / q)) := by ring
  have e2 : (2 * (p / q) + 1) * q = 2 * (q * (p / q)) + q := by ring
  have e3 : 2 * (p / q + 1) * q = 2 * (q * (p / q)) + 2 * q := by ring
  have e4 : (2 * (p / q + 1) + 1) * q = 2 * (q * (p / q)) + 3 * q := by ring
  split_ifs <;> omega

/-! ### The read-only spaces -/

theorem Space.contents_lt (sp : Space) : ∀ n ∈ sp.contents, n < 256 := by
  cases sp <;> decide +kernel

/-- `MemRead(space, a, 1)` is the entry at `a` (R22). -/
theorem memRead_toNat (sp : Space) (a : BitVec 8) :
    (memRead sp a).toNat = sp.contents[a.toNat]'(sp.index_lt a) := by
  have h := sp.contents_lt _ (List.getElem_mem (sp.index_lt a))
  simp [memRead, BitVec.toNat_ofNat, Nat.mod_eq_of_lt h]

/-- The spaces are in the canonical form. -/
theorem Space.cells_wf (sp : Space) : sp.cells.wf = true := by
  have h : ∀ (l : List Byte) (a : Nat), ((List.range' a l.length).zip l).Pairwise (fun c d => c.1 < d.1) := by
    intro l
    induction l with
    | nil => intro a; simp
    | cons x xs ih =>
      intro a
      simp only [List.length_cons, List.range'_succ, List.zip_cons_cons, List.pairwise_cons]
      refine ⟨?_, ih (a + 1)⟩
      intro c hc
      have := List.of_mem_zip (by simpa using hc : (c.1, c.2) ∈ _)
      have := List.mem_range'_1.mp this.1
      simp
      omega
  have := h (sp.contents.map (BitVec.ofNat 8)) 0
  rw [List.length_map, sp.contents_length, ← List.range_eq_range'] at this
  exact decide_eq_true this

/-! ### Generated tables -/

/-- A table generated from a function has no defect (R123). -/
theorem tableAgrees_generated {α : Type} (n : Nat) (f : BitVec n → α) : TableAgrees (generated n f) f := by
  refine ⟨generated_length n f, fun i => ?_⟩
  rw [List.getElem?_eq_getElem (by rw [generated_length]; exact i.isLt)]
  simp [generated]

/-- A read of a generated table is the function's value (R23). -/
@[simp] theorem lookup_eq {α : Type} (n : Nat) (f : BitVec n → α) (i : BitVec n) : lookup n f i = f i := by
  simp [lookup, generated]

/-! ### Result lanes -/

/-- A one-output result is its output as a number (R42). -/
theorem resultLow_toNat {n : Nat} (v : BitVec n) (h : n ≤ 24) : (resultLow v).toNat = v.toNat := by
  simp only [resultLow, BitVec.toNat_setWidth]
  exact Nat.mod_eq_of_lt (lt_of_lt_of_le v.isLt (Nat.pow_le_pow_right (by omega) h))

/-- The result of U8 as a number (R42). -/
theorem resultTriple_toNat (t : FieldTriple) :
    (resultTriple t).toNat = t.r5.toNat * 2 ^ 16 + t.g6.toNat * 2 ^ 8 + t.b5.toNat := by
  simp only [resultTriple, toNat_concat, BitVec.toNat_ofNat]
  omega

/-- The lanes of U8's result hold its outputs (R42). -/
@[simp] theorem tripleOfResult_resultTriple (t : FieldTriple) : tripleOfResult (resultTriple t) = t := by
  have hr := t.r5.isLt
  have hg := t.g6.isLt
  have hb := t.b5.isLt
  cases t
  simp only [tripleOfResult, FieldTriple.mk.injEq]
  refine ⟨?_, ?_, ?_⟩ <;> apply BitVec.eq_of_toNat_eq <;> rw [toNat_field, resultTriple_toNat] <;> simp only at * <;>
    omega

end Sys2Proof.Machine
end

