-- ==== Sys2Proof/Laws/PerInstr.lean ====
section
/-! SUPPORT. The family `EncodesItsRow`: the word of an operation selects the operation map's row of its mnemonic
(spec/30_encoding.md rule R41), one lemma per constructor. -/

namespace Sys2Proof.Laws.EncodesItsRow

/-- The word of `i` selects the row whose mnemonic is that of `i` (R41). -/
def Statement (i : Instr) : Prop :=
  ∃ r ∈ opTable, r.mnemonic = i.mnemonic ∧ r.selects (encode i) = true

/-- A word under a mask, field by field. -/
theorem assemble_and (op op' : BitVec 4) (m m' : BitVec 1) (z z' : BitVec 3) (a a' : Operand) :
    OpWord.assemble op m z a &&& OpWord.assemble op' m' z' a' =
      OpWord.assemble (op &&& op') (m &&& m') (z &&& z') (a &&& a') := by
  have h : (op ++ m ++ z ++ a) &&& (op' ++ m' ++ z' ++ a') =
      (op &&& op') ++ (m &&& m') ++ (z &&& z') ++ (a &&& a') := by
    rw [BitVec.and_append, BitVec.and_append, BitVec.and_append]
  exact h

/-- A row selects an encoded operation if its mask is all ones on `OP` and `Z`, and the operation's own `M` and `A`
under the mask are those of the row's match. -/
theorem statement_of_fields {i : Instr} (r : OpRow) (hr : r ∈ opTable) (hn : r.mnemonic = i.mnemonic)
    (m : BitVec 1) (a : Operand)
    (hmask : r.mask = OpWord.assemble 15#4 m 7#3 a)
    (hmatch : r.matchBits = OpWord.assemble i.opCode 0#1 0#3 0#24)
    (hm : i.modeBit &&& m = 0#1) (ha : i.operandBits &&& a = 0#24) : Statement i := by
  refine ⟨r, hr, hn, ?_⟩
  have hop : i.opCode &&& 15#4 = i.opCode := BitVec.and_allOnes
  rw [OpRow.selects, hmask, hmatch, encode, assemble_and, hm, ha, hop]
  simp

/-- A single operand lane at the bottom of `A` is outside the mask of the bits above it. -/
theorem lane_and (k n : Nat) (v : BitVec n) :
    (0#k ++ v) &&& (BitVec.allOnes k ++ 0#n) = 0#(k + n) := by
  rw [BitVec.and_append]
  simp

theorem rgb565UnpackChannel5 (sel : FieldSel) (pix : Pixel) : Statement (.rgb565UnpackChannel5 sel pix) :=
  statement_of_fields opTable[0] (List.getElem_mem _) rfl 0#1 (BitVec.allOnes 8 ++ 0#16) (by decide) (by rw [Instr.opCode]; decide)
    (by simp [Instr.modeBit]) (lane_and 8 16 pix)

theorem rgb565UnpackChannel6 (pix : Pixel) : Statement (.rgb565UnpackChannel6 pix) :=
  statement_of_fields opTable[1] (List.getElem_mem _) rfl 1#1 (BitVec.allOnes 8 ++ 0#16) (by decide) (by rw [Instr.opCode]; decide)
    (by simp [Instr.modeBit]) (lane_and 8 16 pix)

theorem channel5ToChannel8Linear (c5 : Channel5) : Statement (.channel5ToChannel8Linear c5) :=
  statement_of_fields opTable[2] (List.getElem_mem _) rfl 1#1 (BitVec.allOnes 19 ++ 0#5) (by decide) (by rw [Instr.opCode]; decide)
    (by simp [Instr.modeBit]) (lane_and 19 5 c5)

theorem channel6ToChannel8Linear (c6 : Channel6) : Statement (.channel6ToChannel8Linear c6) :=
  statement_of_fields opTable[3] (List.getElem_mem _) rfl 1#1 (BitVec.allOnes 18 ++ 0#6) (by decide) (by rw [Instr.opCode]; decide)
    (by simp [Instr.modeBit]) (lane_and 18 6 c6)

theorem channel8ToChannel5Linear (c8 : Channel8) : Statement (.channel8ToChannel5Linear c8) :=
  statement_of_fields opTable[4] (List.getElem_mem _) rfl 1#1 (BitVec.allOnes 16 ++ 0#8) (by decide) (by rw [Instr.opCode]; decide)
    (by simp [Instr.modeBit]) (lane_and 16 8 c8)

theorem channel8ToChannel6Linear (c8 : Channel8) : Statement (.channel8ToChannel6Linear c8) :=
  statement_of_fields opTable[5] (List.getElem_mem _) rfl 1#1 (BitVec.allOnes 16 ++ 0#8) (by decide) (by rw [Instr.opCode]; decide)
    (by simp [Instr.modeBit]) (lane_and 16 8 c8)

theorem srgbGammaExpandLut (s8 : Channel8s) : Statement (.srgbGammaExpandLut s8) :=
  statement_of_fields opTable[6] (List.getElem_mem _) rfl 1#1 (BitVec.allOnes 16 ++ 0#8) (by decide) (by rw [Instr.opCode]; decide)
    (by simp [Instr.modeBit]) (lane_and 16 8 s8)

theorem srgbGammaCompressLut (l8 : Channel8) : Statement (.srgbGammaCompressLut l8) :=
  statement_of_fields opTable[7] (List.getElem_mem _) rfl 1#1 (BitVec.allOnes 16 ++ 0#8) (by decide) (by rw [Instr.opCode]; decide)
    (by simp [Instr.modeBit]) (lane_and 16 8 l8)

theorem rgb565PixelUnpack (order : ComponentOrder) (pix : Pixel) : Statement (.rgb565PixelUnpack order pix) :=
  statement_of_fields opTable[8] (List.getElem_mem _) rfl 0#1 (BitVec.allOnes 8 ++ 0#16) (by decide) (by rw [Instr.opCode]; decide)
    (by simp [Instr.modeBit]) (lane_and 8 16 pix)

theorem rgb565PixelPack (order : ComponentOrder) (r5 : Channel5) (g6 : Channel6) (b5 : Channel5) :
    Statement (.rgb565PixelPack order r5 g6 b5) := by
  have h : (0#3 ++ r5 ++ 0#2 ++ g6 ++ 0#3 ++ b5) &&& (7#3 ++ 0#5 ++ 3#2 ++ 0#6 ++ 7#3 ++ 0#5) =
      0#3 ++ 0#5 ++ 0#2 ++ 0#6 ++ 0#3 ++ 0#5 := by
    simp only [BitVec.and_append, BitVec.and_zero, BitVec.zero_and]
  exact statement_of_fields opTable[9] (List.getElem_mem _) rfl 0#1 (7#3 ++ 0#5 ++ 3#2 ++ 0#6 ++ 7#3 ++ 0#5)
    (by decide) (by rw [Instr.opCode]; decide) (by simp [Instr.modeBit]) h

theorem endiannessSwap16b (d : BitVec 16) : Statement (.endiannessSwap16b d) :=
  statement_of_fields opTable[10] (List.getElem_mem _) rfl 1#1 (BitVec.allOnes 8 ++ 0#16) (by decide) (by rw [Instr.opCode]; decide)
    (by simp [Instr.modeBit]) (lane_and 8 16 d)

end Sys2Proof.Laws.EncodesItsRow
end

