-- ==== Sys2Proof/Laws/Program.lean ====
section
/-! SUPPORT. What one line of a program does, said once, and the names after it. -/

namespace Sys2Proof.Machine

/-- A name looked up after one more binding: an earlier binding stands, since a name is bound once (R46). -/
theorem lookupName_append (env : Env) (k x : String) (v : Value) :
    lookupName (env ++ [(k, v)]) x = (lookupName env x).or (if k = x then some v else none) := by
  induction env with
  | nil => simp [lookupName]
  | cons p rest ih =>
    obtain ⟨k', v'⟩ := p
    by_cases h : k' = x <;> simp [lookupName, h, ih]

/-- `A` of operands in their lanes: each at its lane's lowest bit (R42). -/
def laneSum : List Nat → List (Nat × Nat) → Nat
  | n :: ns, lane :: lanes => n * 2 ^ lane.2 + laneSum ns lanes
  | _, _ => 0

/-- Everything that building `A` can answer: a value exactly if there is one argument for each lane, each a number that
fits its lane, and then the sum of the lanes (R46, R47). -/
theorem operandOf_eq_ok {env : Env} {lanes : List (Nat × Nat)} {args : List Arg} {a : Nat} :
    operandOf env lanes args = .ok a ↔ ∃ ns : List Nat, args.map (argNumber env) = ns.map .ok ∧
      List.Forall₂ (fun n lane => n < 2 ^ lane.1) ns lanes ∧ a = laneSum ns lanes := by
  induction lanes generalizing args a with
  | nil =>
    cases args with
    | nil => simp [operandOf, laneSum, eq_comm]
    | cons x xs => simp [operandOf]
  | cons lane lanes ih =>
    obtain ⟨w, low⟩ := lane
    cases args with
    | nil =>
      simp only [operandOf, reduceCtorEq, false_iff]
      rintro ⟨ns, h1, h2, -⟩
      cases h2
      simp at h1
    | cons x xs =>
      simp only [operandOf]
      constructor
      · intro h
        cases hx : argNumber env x with
        | error e => simp [hx] at h
        | ok n =>
          simp only [hx] at h
          split_ifs at h with hn
          cases ho : operandOf env lanes xs with
          | error e => simp [ho] at h
          | ok r =>
            simp only [ho, Except.ok.injEq] at h
            obtain ⟨ns, h1, h2, h3⟩ := ih.mp ho
            exact ⟨n :: ns, by simp [hx, h1], .cons hn h2, by simp [laneSum, ← h, h3]⟩
      · rintro ⟨_, h1, h2, h3⟩
        cases h2 with
        | cons hn h2 =>
          simp only [List.map_cons, List.cons.injEq] at h1
          simp only [h1.1, if_pos hn, ih.mpr ⟨_, h1.2, h2, rfl⟩, h3, laneSum]

/-- A line whose name is free and whose word the block evaluates binds the result to that name (R46, R47). -/
theorem evalLine_ok {h : HostState} {l : Line} {w : OpWord} {t : State}
    (hn : lookupName h.env l.name = none) (hw : l.word h.env = .ok w) (ht : step (h.block.present w) = .next t) :
    evalLine h l = .ok { env := h.env ++ [(l.name, boundValue l.mnemonic t.y)], block := t } := by
  simp [evalLine, hn, hw, ht]

/-- The one way a line has a value: its name was free and the block evaluated its word. -/
theorem evalLine_eq_ok {h h' : HostState} {l : Line} (he : evalLine h l = .ok h') :
    ∃ w t, lookupName h.env l.name = none ∧ l.word h.env = .ok w ∧ step (h.block.present w) = .next t ∧
      h' = { env := h.env ++ [(l.name, boundValue l.mnemonic t.y)], block := t } := by
  unfold evalLine at he
  split at he
  · cases he
  · rename_i hn
    split at he
    · cases he
    · rename_i w hw
      split at he
      · rename_i t ht
        cases he
        exact ⟨w, t, hn, hw, ht, rfl⟩
      · cases he
      · rename_i f _
        exact nomatch f

end Sys2Proof.Machine
end

