-- ==== Sys2Proof/Laws/Words.lean ====
section
/-! SUPPORT. Words as numbers (spec/30_encoding.md rule R40). -/

namespace Sys2Proof.Machine

/-- A word as a number is its fields assembled with `Z = 0` (R40). -/
theorem wordOf_eq_assemble {op m a : Nat} (hm : m < 2) (ha : a < 2 ^ 24) :
    wordOf op m a = OpWord.assemble (BitVec.ofNat 4 op) (BitVec.ofNat 1 m) 0#3 (BitVec.ofNat 24 a) := by
  apply BitVec.eq_of_toNat_eq
  rw [OpWord.toNat_assemble]
  simp only [wordOf, BitVec.toNat_ofNat]
  omega

/-- The word of an operation as a number (R40, R47). -/
theorem encode_eq_wordOf (i : Instr) :
    encode i = wordOf i.opCode.toNat i.modeBit.toNat i.operandBits.toNat := by
  have := i.opCode.isLt
  have := i.modeBit.isLt
  have := i.operandBits.isLt
  apply BitVec.eq_of_toNat_eq
  rw [encode, OpWord.toNat_assemble]
  simp only [wordOf, BitVec.toNat_ofNat]
  omega

theorem selCode_eq (s : FieldSel) : selCode s = s.toBit.toNat := by cases s <;> rfl

theorem orderCode_eq (o : ComponentOrder) : orderCode o = o.toBit.toNat := by cases o <;> rfl

end Sys2Proof.Machine
end

