-- ==== Sys2Proof/Tests/Slice0.lean ====
section
/-! SUPPORT. Tests. Every expected value is one the spec prints: the tables V1 to V7 and the programs P1 to P5 of
spec/95_test_vectors.md, the worked examples of the rules, or a word written out from the encodings of
spec/opcode_table.json. The last part shows, for every statement with hypotheses, values that meet them. -/

namespace Sys2Proof.Tests

open Sys2Proof Sys2Proof.Machine

/-- The output of one step from reset on the word `w`; `none` if the word is refused. -/
def output (w : Nat) : Option Nat :=
  match step (State.reset.withFetchWord 32 w) with
  | .next t => some t.y.toNat
  | .refused _ => none
  | .fault f => nomatch f

/-- The value a text program binds to a name, from the start of a program; `none` if a line has no meaning. -/
def bound (program : List String) (x : String) : Option Value :=
  match runText .start program with
  | .ok h => lookupName h.env x
  | .error _ => none

/-- Why a text program has no meaning. -/
def failure (program : List String) : Option LineError :=
  match runText .start program with
  | .ok _ => none
  | .error e => some e

/-! ### Decoding: a word for each operation, written out field by field from the encodings of opcode_table.json -/

theorem test_decode_rgb565_unpack_channel5 :
    decode 0b0000_1_000_00000000_1111100000000000#32 = some (.rgb565UnpackChannel5 .hi 0xF800#16) := by decide
theorem test_decode_rgb565_unpack_channel5_lo :
    decode 0b0000_0_000_00000000_0000000000011111#32 = some (.rgb565UnpackChannel5 .lo 0x001F#16) := by decide
theorem test_decode_rgb565_unpack_channel6 :
    decode 0b0001_0_000_00000000_1000000000000001#32 = some (.rgb565UnpackChannel6 0x8001#16) := by decide
theorem test_decode_channel5_to_channel8_linear :
    decode 0b0010_0_000_0000000000000000000_10000#32 = some (.channel5ToChannel8Linear 16#5) := by decide
theorem test_decode_channel6_to_channel8_linear :
    decode 0b0011_0_000_000000000000000000_100001#32 = some (.channel6ToChannel8Linear 33#6) := by decide
theorem test_decode_channel8_to_channel5_linear :
    decode 0b0100_0_000_0000000000000000_10000011#32 = some (.channel8ToChannel5Linear 131#8) := by decide
theorem test_decode_channel8_to_channel6_linear :
    decode 0b0101_0_000_0000000000000000_11111101#32 = some (.channel8ToChannel6Linear 253#8) := by decide
theorem test_decode_srgb_gamma_expand_lut :
    decode 0b0110_0_000_0000000000000000_10111110#32 = some (.srgbGammaExpandLut 190#8) := by decide
theorem test_decode_srgb_gamma_compress_lut :
    decode 0b0111_0_000_0000000000000000_10000100#32 = some (.srgbGammaCompressLut 132#8) := by decide
theorem test_decode_rgb565_pixel_unpack :
    decode 0b1000_1_000_00000000_0001001000110100#32 = some (.rgb565PixelUnpack .bgr565 0x1234#16) := by decide
theorem test_decode_rgb565_pixel_pack :
    decode 0b1001_1_000_000_11111_00_000010_000_00001#32 = some (.rgb565PixelPack .bgr565 31#5 2#6 1#5) := by decide
theorem test_decode_endianness_swap_16b :
    decode 0b1010_0_000_00000000_0011010000010010#32 = some (.endiannessSwap16b 0x3412#16) := by decide

/-! ### Well-formedness: one reserved word of V5 for each check of R43, and each is refused -/

/-- `Z` is 1 (R43 step 2). -/
theorem test_reserved_z : OpWord.admitted 0x0100F800#32 = false ∧ decode 0x0100F800#32 = none ∧
    OpWord.reservedReasons 0x0100F800#32 = [.zNotZero] := by decide
/-- `OP` is 11 and 15 (R43 step 3). -/
theorem test_reserved_op : OpWord.admitted 0xB0000000#32 = false ∧ decode 0xB0000000#32 = none ∧
    OpWord.reservedReasons 0xB0000000#32 = [.noUnit] ∧ decode 0xF0000000#32 = none := by decide
/-- `M` is 1 for units 1, 5 and 10, which have no mode (R43 step 4). -/
theorem test_reserved_mode : OpWord.admitted 0x1800F800#32 = false ∧
    OpWord.reservedReasons 0x1800F800#32 = [.modeNotAllowed] ∧ decode 0x1800F800#32 = none ∧
    decode 0x580000FF#32 = none ∧ decode 0xA800F800#32 = none := by decide
/-- A must-be-zero bit of `A` is 1, next to the lane of each width (R43 step 5). -/
theorem test_reserved_lane : OpWord.admitted 0x0001F800#32 = false ∧
    OpWord.reservedReasons 0x0001F800#32 = [.spareOperandBit] ∧ decode 0x0001F800#32 = none ∧
    decode 0x20000020#32 = none ∧ decode 0x30000040#32 = none ∧ decode 0x40000100#32 = none := by decide
/-- The three lanes of unit 9, each with a bit above its field. -/
theorem test_reserved_pack_lanes : OpWord.admitted 0x90200000#32 = false ∧ OpWord.admitted 0x90004000#32 = false ∧
    OpWord.admitted 0x90000020#32 = false ∧ decode 0x90200000#32 = none ∧ decode 0x90004000#32 = none ∧
    decode 0x90000020#32 = none := by decide
/-- All ones: the last row of V5's reserved words, and every check that can fail does. -/
theorem test_reserved_refused : output 0xFFFFFFFF = none ∧ output 0x90200000 = none ∧ output 0x0100F800 = none ∧
    output 0xB0000000 = none ∧ output 0x1800F800 = none := by decide
/-- Admitted words are admitted. -/
theorem test_admitted : OpWord.admitted 0x981F3F1F#32 = true ∧ OpWord.admitted 0x0800F800#32 = true ∧
    OpWord.admitted 0x00000000#32 = true ∧ OpWord.reservedReasons 0x981F3F1F#32 = [] := by decide
/-- The host's form of the decoder: the table's 32 bits, and no word outside them. -/
theorem test_decode_table_word : decodeTableWord 32 0x20000010 = some (.channel5ToChannel8Linear 16#5) ∧
    decodeTableWord 32 0x100000000 = none ∧ decodeTableWord 40 0x20000010 = none := by decide

/-! ### One step per operation: rows of V1 to V4 -/

theorem test_unpack_channel5_hi_and_lo : output 0x0800ABCD = some 21 ∧ output 0x0000ABCD = some 13 := by decide
theorem test_unpack_channel5_ends : output 0x08000800 = some 1 ∧ output 0x0000FFFF = some 31 := by decide
theorem test_unpack_channel6 : output 0x1000ABCD = some 30 ∧ output 0x10000020 = some 1 := by decide
theorem test_unpack_channel6_neighbours : output 0x1000F81F = some 0 ∧ output 0x100007E0 = some 63 := by decide
theorem test_channel5_to_channel8 : output 0x20000010 = some 132 ∧ output 0x2000001F = some 255 := by decide
/-- Inputs at which bit replication would differ (C1). -/
theorem test_channel5_not_replicated : output 0x20000003 = some 25 ∧ output 0x2000001C = some 230 := by decide
theorem test_channel6_to_channel8 : output 0x30000020 = some 130 ∧ output 0x3000003F = some 255 := by decide
/-- Inputs at which bit replication would differ (C1). -/
theorem test_channel6_not_replicated : output 0x3000000B = some 45 ∧ output 0x30000034 = some 210 := by decide
theorem test_channel8_to_channel5 : output 0x40000004 = some 0 ∧ output 0x40000005 = some 1 := by decide
theorem test_channel8_to_channel5_top : output 0x400000FA = some 30 ∧ output 0x400000FB = some 31 := by decide
theorem test_channel8_to_channel6 : output 0x50000002 = some 0 ∧ output 0x50000003 = some 1 := by decide
theorem test_channel8_to_channel6_top : output 0x500000FC = some 62 ∧ output 0x500000FD = some 63 := by decide
theorem test_gamma_expand : output 0x600000BE = some 131 ∧ output 0x600000FE = some 253 := by decide
theorem test_gamma_expand_low : output 0x6000000D = some 1 ∧ output 0x60000024 = some 4 := by decide
theorem test_gamma_compress : output 0x70000084 = some 190 ∧ output 0x700000FE = some 255 := by decide
theorem test_gamma_compress_low : output 0x70000001 = some 13 ∧ output 0x7000004B = some 148 := by decide
theorem test_pixel_unpack_rgb : output 0x80001234 = some 0x021114 := by decide
theorem test_pixel_unpack_bgr : output 0x88001234 = some 0x141102 := by decide
theorem test_pixel_pack_rgb : output 0x90021114 = some 0x1234 := by decide
theorem test_pixel_pack_bgr : output 0x98021114 = some 0xA222 := by decide
theorem test_endianness_swap : output 0xA000F800 = some 0x00F8 ∧ output 0xA0001234 = some 0x3412 := by decide
theorem test_endianness_swap_fixed : output 0xA000ABAB = some 0xABAB ∧ output 0xA0000080 = some 0x8000 := by decide
/-- The sums that V3 prints for the two constant tables. -/
theorem test_table_sums : gexpTable.sum = 20304 ∧ gcmpTable.sum = 44981 := by decide +kernel

/-! ### Compositions: rows of V6 and V7 -/

/-- The codes of R7: `endianness` 0 is little-endian, 1 big-endian; by them the first columns of V6. -/
theorem test_endianness_code : Endianness.ofBit 0#1 = .little ∧ Endianness.ofBit 1#1 = .big ∧
    Endianness.toBit .big = 1#1 ∧ pixelDecode ⟨0xF8#8, 0x00#8⟩ (.ofBit 0#1) (.ofBit 1#1) = ⟨31#5, 0#6, 0#5⟩ := by decide
theorem test_pixel_decode : pixelDecode ⟨0x34#8, 0x12#8⟩ .bgr565 .big = ⟨18#5, 32#6, 6#5⟩ ∧
    pixelDecode ⟨0x00#8, 0xF8#8⟩ .rgb565 .little = ⟨31#5, 0#6, 0#5⟩ := by decide
theorem test_pixel_encode : pixelEncode ⟨2#5, 17#6, 20#5⟩ .bgr565 .big = ⟨0xA2#8, 0x22#8⟩ := by decide
theorem test_swap_components : swapComponents 0xABCD#16 = 0x6BD5#16 ∧
    swapComponentsBytes .big ⟨0xF8#8, 0x00#8⟩ = ⟨0x00#8, 0x1F#8⟩ := by decide
theorem test_bytes_to_bytes :
    bytesToBytes .rgb565 .big .bgr565 .little ⟨0x12#8, 0x34#8⟩ = ⟨0x22#8, 0xA2#8⟩ := by decide
/-- The first row of V6's bytes to bytes: endianness conversion alone, by its line. -/
theorem test_swap_bytes_line : swapBytes ⟨0x34#8, 0x12#8⟩ = ⟨0x12#8, 0x34#8⟩ ∧
    linesSwapBytes 0x1234#16 = [⟨"v2", .endiannessSwap16b, none, [.literal 0x1234]⟩] := by decide
/-- S1: the document's bytes to RGB888 and back. -/
theorem test_bytes_to_888 : bytesToRgb888 ⟨0x00#8, 0xF8#8⟩ .rgb565 .little = ⟨255#8, 0#8, 0#8⟩ ∧
    rgb888ToBytes ⟨255#8, 0#8, 0#8⟩ .rgb565 .little = ⟨0x00#8, 0xF8#8⟩ := by decide +kernel
theorem test_srgb_paths : expand5SrgbOn .twoStage 17#5 = 196#8 ∧ expand5SrgbOn .singleRound 17#5 = 195#8 ∧
    contract6SrgbOn .twoStage 254#8 = 63#6 ∧ contract6SrgbOn .singleRound 254#8 = 62#6 := by decide +kernel
theorem test_pixel_to_888 : pixelToRgb888 0x1234#16 .bgr565 = ⟨165#8, 69#8, 16#8⟩ ∧
    pixelToSrgb888 0x1234#16 .rgb565 = ⟨71#8, 142#8, 210#8⟩ := by decide +kernel
theorem test_888_to_pixel : rgb888ToPixel ⟨36#8, 25#8, 37#8⟩ .rgb565 = 0x20C4#16 ∧
    srgb888ToPixel ⟨16#8, 69#8, 165#8⟩ .bgr565 = 0x6080#16 := by decide +kernel

/-- R123: a table that holds bit replication's value 24 at 3, where the rule gives 25 (R57), has the defect. -/
theorem test_table_defect : ¬ TableAgrees (widen5Lut.set 3 24) (fun c : Channel5 => (widen5 c).toNat) := by
  unfold TableAgrees
  decide +kernel

/-! ### Programs as text: lines of P1 to P5 -/

/-- P1, lines 1, 2, 5: a lane of an unpack, then a name. -/
theorem test_program_p1 : bound ["t = rgb565_pixel_unpack.rgb 0xF800", "R = channel5_to_channel8_linear t.r5",
    "r = channel8_to_channel5_linear R"] "r" = some (.scalar 31) := by decide
/-- P2, lines 1 and 2. -/
theorem test_program_p2 : bound ["v = endianness_swap_16b 0x3412", "t = rgb565_pixel_unpack.bgr v"] "t" =
    some (.triple ⟨20#5, 17#6, 2#5⟩) := by decide
/-- P3, line 7 with the values of lines 4 to 6. -/
theorem test_program_p3 : bound ["p = rgb565_pixel_pack.rgb 18, 8, 1 ; the fields of P3"] "p" =
    some (.scalar 0x9101) := by decide
/-- P4, lines 6 and 7. -/
theorem test_program_p4 : bound ["t = rgb565_pixel_unpack.rgb 0xABCD",
    "z = rgb565_pixel_pack.bgr t.r5, t.g6, t.b5"] "z" = some (.scalar 0x6BD5) := by decide
/-- P5, lines 1 and 2: the document's scenario S2. -/
theorem test_program_p5 : bound ["l = channel5_to_channel8_linear 16", "s = srgb_gamma_compress_lut l"] "s" =
    some (.scalar 190) := by decide

/-! ### Ill-formed lines: one for each check of R46 -/

theorem test_line_bad_syntax : failure ["t rgb565_pixel_unpack.rgb 0xF800"] = some .badSyntax ∧
    failure ["t = rgb565_pixel_unpac.rgb 0xF800"] = some .badSyntax := by decide
theorem test_line_mode_missing : failure ["t = rgb565_pixel_unpack 0xF800"] = some .badMode := by decide
theorem test_line_mode_of_another : failure ["t = rgb565_pixel_unpack.hi 0xF800"] = some .badMode ∧
    failure ["q = endianness_swap_16b.rgb 1"] = some .badMode := by decide
theorem test_line_arg_count : failure ["p = rgb565_pixel_pack.rgb 1, 2"] = some .badArgCount ∧
    failure ["q = endianness_swap_16b 1, 2"] = some .badArgCount := by decide
theorem test_line_unknown_name : failure ["q = endianness_swap_16b w"] = some (.unknownName "w") := by decide
theorem test_line_no_such_lane : failure ["q = endianness_swap_16b 1", "c = channel5_to_channel8_linear q.r5"] =
    some (.noSuchLane "q") := by decide
theorem test_line_arg_too_wide : failure ["c = channel5_to_channel8_linear 32"] = some (.argTooWide 32) ∧
    failure ["c = channel5_to_channel8_linear 0b11111"] = none := by decide
theorem test_line_name_taken : failure ["q = endianness_swap_16b 1", "q = endianness_swap_16b 2"] =
    some (.nameTaken "q") := by decide

/-! ### Memory: the two spaces -/

theorem test_space_read : Memory.read Space.gcmp.cells 132 = some 190#8 ∧ Memory.read Space.gexp.cells 255 = some 255#8 ∧
    Memory.read Space.gexp.cells 256 = none := by decide +kernel

/-! ### Hypotheses that are met: one witness for each statement with hypotheses, at a boundary where it has clauses -/

/-- `EncodeOfDecode`, `StepRunsDecoded` (first case). -/
theorem test_witness_decodes : decode 0x981F3F1F#32 = some (.rgb565PixelPack .bgr565 31#5 63#6 31#5) := by decide
/-- `StepRunsDecoded` (second case), `AdmittedWordsAreEvaluated` (second case). -/
theorem test_witness_reserved : decode 0xB0000000#32 = none := by decide
/-- `OperationMap`: the first and the last row, with words at the edge of each. -/
theorem test_witness_rows : (⟨"rgb565_unpack_channel5", 0x00000000#32, 0xF7FF0000#32⟩ : OpRow) ∈ opTable ∧
    0x0800FFFF#32 &&& 0xF7FF0000#32 = 0x00000000#32 ∧
    (⟨"endianness_swap_16b", 0xA0000000#32, 0xFFFF0000#32⟩ : OpRow) ∈ opTable ∧
    0xA000FFFF#32 &&& 0xFFFF0000#32 = 0xA0000000#32 ∧ 0xA0010000#32 &&& 0xFFFF0000#32 ≠ 0xA0000000#32 := by decide
/-- `OperationMap`, last part: a word that matches no row. -/
theorem test_witness_no_row : ∀ r ∈ opTable, ({ opw := 0xB0000000#32, y := 5#24 } : State).opw &&& r.mask ≠ r.matchBits := by
  decide
/-- `DecodingProcedure`: words at the edges of its checks: `OP` 10 and 11, `Z` 0 and 1, `M` on a unit with a mode and on
one without, the last bit inside and the first bit outside a lane. -/
theorem test_witness_procedure : output 0xA0000000 = some 0 ∧ output 0xB0000000 = none ∧ output 0x09000000 = none ∧
    output 0x08000000 = some 0 ∧ output 0x18000000 = none ∧ output 0x3000003F = some 255 ∧
    output 0x30000040 = none := by decide
/-- `Channel5ToChannel8Result`, `Channel6ToChannel8Result`: the pairs their order clauses speak of. -/
theorem test_witness_widen_order : (0#5 < 31#5) ∧ (62#6 < 63#6) ∧ (10#6 < 63#6) ∧ widen6 11#6 = 45#8 ∧
    widen6 12#6 = 49#8 := by decide
/-- `Channel8ToChannel5Result`, `Channel8ToChannel6Result`: the inputs their order clauses speak of. -/
theorem test_witness_narrow_order : (4#8 ≤ 5#8) ∧ (4#8 < 5#8) ∧ narrow5 4#8 = 0#5 ∧ narrow6 2#8 = 0#6 ∧
    narrow6 3#8 = 1#6 := by decide
/-- `GammaExpandResult`: the edges of its clauses, 6, 7, 17 and 18. -/
theorem test_witness_gamma_expand : gexpTable.getD 6 0 = 0 ∧ gexpTable.getD 7 0 = 1 ∧ gexpTable.getD 17 0 = 1 ∧
    gexpTable.getD 18 0 = 2 := by decide
/-- `PixelPackResult`, second part: a lane one above its largest value. -/
theorem test_witness_pack_lane : ¬ ((32#8).toNat < 32 ∧ (0#8).toNat < 64 ∧ (0#8).toNat < 32) ∧
    ¬ ((31#8).toNat < 32 ∧ (64#8).toNat < 64 ∧ (31#8).toNat < 32) := by decide
/-- `StepDependsOnWordOnly`: two states with one word and different outputs, and a step from one of them. -/
theorem test_witness_same_word : ({ opw := 0x20000010#32, y := 0#24 } : State).opw =
      ({ opw := 0x20000010#32, y := 7#24 } : State).opw ∧
    step { opw := 0x20000010#32, y := 7#24 } = .next { opw := 0x20000010#32, y := 132#24 } := ⟨rfl, by rfl⟩
/-- `EvaluationsDoNotInterfere`, `StepKeepsSettled`: a step that answers a next state, from a state no run reaches. -/
theorem test_witness_step : step (State.present { opw := 0#32, y := 0xFFFFFF#24 } 0xA0001234#32) =
    .next { opw := 0xA0001234#32, y := 0x003412#24 } := by rfl
/-- `AdmittedWordsAreEvaluated`: an admitted and a reserved input. -/
theorem test_witness_admits : State.Admits State.reset ∧ ¬ State.Admits { opw := 0xFFFFFFFF#32, y := 0#24 } := by
  unfold State.Admits; decide
/-- `SpacesReadTheirEntries`: the first index past the end. -/
theorem test_witness_index : 256 ≤ 256 ∧ Memory.read Space.gcmp.cells 255 = some 255#8 := by decide +kernel
/-- `TableEntriesPassExactTest`: the edges of its clauses, 1 for the compress table, 10 and 11 for the expand table. -/
theorem test_witness_exact_test : memRead .gcmp 1#8 = 13#8 ∧ (50 * 10 + 323) / 646 = 1 ∧ memRead .gexp 10#8 = 1#8 ∧
    memRead .gexp 11#8 = 1#8 ∧ memRead .gexp 255#8 = 255#8 := by decide +kernel
theorem test_witness_gcmp_exact : gcmpTest 1 13 ∧ ¬ gcmpTest 1 12 ∧ gcmpTest 255 255 := by
  norm_num [gcmpTest, lowerEdge]
theorem test_witness_gexp_exact : gexpTest 11 1 ∧ ¬ gexpTest 11 0 ∧ gexpTest 255 255 := by
  norm_num [gexpTest, encodedBase]
/-- `GammaTableProperties`: the two ends in one pair. -/
theorem test_witness_gamma_pair : (0#8 : BitVec 8) ≤ 255#8 ∧ (74#8 : BitVec 8) < 75#8 := by decide
/-- `DecInvertsEnc`: a point of each branch, the branch point itself in the first. -/
theorem test_witness_enc_linear : (0 : ℝ) ≤ 0.0031308 ∧ (0.0031308 : ℝ) ≤ 0.0031308 := by norm_num
theorem test_witness_enc_power : (0.0031308 : ℝ) < 1 ∧ (1 : ℝ) ≤ 1 ∧ (12.92 * 0.0031308 : ℝ) < enc 1 := by
  norm_num [enc]
/-- `NarrowAfterWiden`: the two widenings answer a next state. -/
theorem test_witness_widen5 : exec (.channel5ToChannel8Linear 16#5) State.reset =
    .next { opw := 0#32, y := 132#24 } := by rfl
theorem test_witness_widen6 : exec (.channel6ToChannel8Linear 32#6) State.reset =
    .next { opw := 0#32, y := 130#24 } := by rfl
/-- `UnpackIsSideBySide`: all five evaluations of one pixel. -/
theorem test_witness_side_by_side :
    exec (.rgb565UnpackChannel5 .hi 0xABCD#16) State.reset = .next { opw := 0#32, y := 21#24 } ∧
    exec (.rgb565UnpackChannel5 .lo 0xABCD#16) State.reset = .next { opw := 0#32, y := 13#24 } ∧
    exec (.rgb565UnpackChannel6 0xABCD#16) State.reset = .next { opw := 0#32, y := 30#24 } ∧
    exec (.rgb565PixelUnpack .rgb565 0xABCD#16) State.reset = .next { opw := 0#32, y := 0x151E0D#24 } ∧
    exec (.rgb565PixelUnpack .bgr565 0xABCD#16) State.reset = .next { opw := 0#32, y := 0x0D1E15#24 } :=
  ⟨by rfl, by rfl, by rfl, by rfl, by rfl⟩
/-- `PackUnpackInverse`: its two first evaluations. -/
theorem test_witness_pack_unpack :
    exec (.rgb565PixelUnpack .bgr565 0x1234#16) State.reset = .next { opw := 0#32, y := 0x141102#24 } ∧
    exec (.rgb565PixelPack .bgr565 2#5 17#6 20#5) State.reset = .next { opw := 0#32, y := 0x00A222#24 } :=
  ⟨by rfl, by rfl⟩
/-- `SwapTwiceIsIdentity`: its first evaluation. -/
theorem test_witness_swap : exec (.endiannessSwap16b 0x1234#16) State.reset =
    .next { opw := 0#32, y := 0x003412#24 } := by rfl
/-- `BytesToBytesLaws`: two different orders. -/
theorem test_witness_orders : ComponentOrder.rgb565 ≠ .bgr565 := by decide
/-- `LinesBuildAdmittedWords`: a line of P3 with its mode, its arguments at and below the top of their ports, and the
operation it writes. -/
theorem test_witness_line_fits :
    Mnemonic.allows .rgb565PixelPack (some .bgr) ∧
    Line.numbers [("r", .scalar 31)] ⟨"q", .rgb565PixelPack, some .bgr, [.name "r", .literal 63, .literal 1]⟩ [31, 63, 1] ∧
    List.Forall₂ (fun n lane => n < 2 ^ lane.1) [31, 63, 1] (Mnemonic.lanes .rgb565PixelPack) ∧
    lineForm (.rgb565PixelPack .bgr565 31#5 63#6 1#5) = (.rgb565PixelPack, some .bgr, [31, 63, 1]) := by
  refine ⟨Or.inr rfl, rfl, ?_, rfl⟩
  simp [Mnemonic.lanes]
/-- `LinesBuildAdmittedWords`: a line with an argument at the top of its port, and the word P1 prints for it. -/
theorem test_witness_line_word : Line.word [("t", .triple ⟨31#5, 0#6, 0#5⟩)]
    ⟨"R", .channel5ToChannel8Linear, none, [.lane "t" .r5]⟩ = .ok 0x2000001F#32 := by rfl
/-- `LineBindsOneName`: a line that has a value. -/
theorem test_witness_line_value : evalLine .start ⟨"s", .srgbGammaCompressLut, none, [.literal 132]⟩ =
    .ok { env := [("s", .scalar 190)], block := { opw := 0x70000084#32, y := 190#24 } } := by rfl
/-- `SrgbChannelExpansions`: the edges of its order and range clauses. -/
theorem test_witness_contract_edge : (36#8 : BitVec 8) ≤ 36#8 ∧ contract5Srgb 36#8 = 0#5 ∧ contract5Srgb 37#8 = 1#5 ∧
    contract6Srgb 25#8 = 0#6 ∧ contract6Srgb 26#8 = 1#6 ∧ (30#5 : BitVec 5) < 31#5 := by decide +kernel
/-- `IndependentLinesCommute`: two lines of P1, of which neither uses the other's name. -/
theorem test_witness_independent :
    Line.mentions ⟨"G", .channel6ToChannel8Linear, none, [.lane "t" .g6]⟩ "R" = false ∧
    runLines { env := [("t", .triple ⟨31#5, 0#6, 0#5⟩)], block := State.reset }
      [⟨"R", .channel5ToChannel8Linear, none, [.lane "t" .r5]⟩, ⟨"G", .channel6ToChannel8Linear, none, [.lane "t" .g6]⟩] =
    .ok { env := [("t", .triple ⟨31#5, 0#6, 0#5⟩), ("R", .scalar 255), ("G", .scalar 0)],
          block := { opw := 0x30000000#32, y := 0#24 } } := ⟨by decide, by rfl⟩

end Sys2Proof.Tests
end

/-! # The spaces' reads and the readings of a byte pair

Proofs of the family spec/20_memory.md: O25 (rules R20 and R22) and O40 (rule R24). -/

namespace Sys2Proof.Machine

open Sys2Proof.Laws

/-! ### Reading a space as memory (R20, R22) -/

@[simp] theorem Memory.read_nil (n : Nat) : Memory.read [] n = none := rfl

@[simp] theorem Memory.read_cons_same (m : Memory) (n : Nat) (b : Byte) : Memory.read ((n, b) :: m) n = some b := by
  simp [Memory.read]

theorem Memory.read_cons_of_ne {k n : Nat} (m : Memory) (b : Byte) (h : k ≠ n) :
    Memory.read ((k, b) :: m) n = Memory.read m n := by
  simp [Memory.read, h]

/-- Bytes laid out from address `k` on: the address `k + n` holds the byte at position `n`, and no byte lies past the
last. -/
theorem Memory.read_range'_zip (l : List Byte) (k n : Nat) :
    Memory.read ((List.range' k l.length).zip l) (k + n) = l[n]? := by
  induction l generalizing k n with
  | nil => simp
  | cons b bs ih =>
    rw [List.length_cons, List.range'_succ, List.zip_cons_cons]
    cases n with
    | zero => simp
    | succ n =>
      rw [Memory.read_cons_of_ne _ _ (by omega), List.getElem?_cons_succ, ← ih (k + 1) n]
      congr 1
      omega

/-- Reading a space as memory is looking the index up among its entries, whatever the index. -/
theorem Space.read_cells (sp : Space) (n : Nat) :
    sp.cells.read n = sp.contents[n]?.map (BitVec.ofNat 8) := by
  have h := Memory.read_range'_zip (sp.contents.map (BitVec.ofNat 8)) 0 n
  rwa [List.length_map, sp.contents_length, ← List.range_eq_range', Nat.zero_add, List.getElem?_map] at h

/-- The table's entry at an 8-bit index is what `MemRead` returns (R22). -/
theorem Space.contents_getElem?_toNat (sp : Space) (a : BitVec 8) :
    sp.contents[a.toNat]? = some (memRead sp a).toNat := by
  rw [memRead_toNat, List.getElem?_eq_getElem (sp.index_lt a)]

/-- Settles O25: a space read as memory is its table looked up by index (`Space.read_cells`). -/
theorem spacesReadTheirEntries : Obligations.SpacesReadTheirEntries := by
  unfold Obligations.SpacesReadTheirEntries
  refine ⟨fun sp a => ?_, fun sp n h => ?_, fun a => ⟨?_, ?_⟩⟩
  · rw [sp.read_cells, sp.contents_getElem?_toNat, Option.map_some, BitVec.ofNat_toNat, BitVec.setWidth_eq]
  · rw [sp.read_cells, List.getElem?_eq_none (by rwa [sp.contents_length]), Option.map_none]
  · exact Space.gexp.contents_getElem?_toNat a
  · exact Space.gcmp.contents_getElem?_toNat a

/-! ### The two readings of a byte pair (R24)

The big-endian reading is the little-endian one of the pair turned round (`valueBe_eq_valueLe`), and the same holds of
the bytes of a value, so each big-endian fact is the little-endian one with the bytes exchanged. -/

theorem valueBe_eq_valueLe (p : BytePair) : valueBe p = valueLe { b0 := p.b1, b1 := p.b0 } := rfl

theorem bytesBe_eq_bytesLe (w : BitVec 16) : bytesBe w = { b0 := (bytesLe w).b1, b1 := (bytesLe w).b0 } := rfl

theorem valueLe_toNat (p : BytePair) : (valueLe p).toNat = p.b1.toNat * 256 + p.b0.toNat :=
  toNat_concat p.b1 p.b0

theorem valueBe_toNat (p : BytePair) : (valueBe p).toNat = p.b0.toNat * 256 + p.b1.toNat := by
  rw [valueBe_eq_valueLe, valueLe_toNat]

theorem bytesLe_b0_toNat (w : BitVec 16) : (bytesLe w).b0.toNat = bitsOf w.toNat 7 0 :=
  toNat_field w 0 8

theorem bytesLe_b1_toNat (w : BitVec 16) : (bytesLe w).b1.toNat = bitsOf w.toNat 15 8 :=
  toNat_field w 8 8

@[simp] theorem bytesLe_valueLe (p : BytePair) : bytesLe (valueLe p) = p := by
  have h0 : (bytesLe (valueLe p)).b0 = p.b0 := BitVec.extractLsb'_append_eq_right
  have h1 : (bytesLe (valueLe p)).b1 = p.b1 := BitVec.extractLsb'_append_eq_left
  cases p
  exact congrArg₂ BytePair.mk h0 h1

@[simp] theorem bytesBe_valueBe (p : BytePair) : bytesBe (valueBe p) = p := by
  rw [bytesBe_eq_bytesLe, valueBe_eq_valueLe, bytesLe_valueLe]

/-- Settles O40: the little-endian facts, and the big-endian ones from them by exchanging the bytes. -/
theorem bytePairReadings : Obligations.BytePairReadings := by
  unfold Obligations.BytePairReadings
  refine ⟨fun p => ?_, fun w => ?_, fun b0 b1 => valueBe_eq_valueLe _⟩
  · exact ⟨valueLe_toNat p, valueBe_toNat p, bytesLe_valueLe p, bytesBe_valueBe p⟩
  · exact ⟨bytesLe_b0_toNat w, bytesLe_b1_toNat w, bytesLe_b1_toNat w, bytesLe_b0_toNat w⟩

end Sys2Proof.Machine

/-! # The operation map and the decoding procedure

Proofs of the family spec/30_encoding.md: O3 (rules R41 and R44) and O4 (rule R43). Both rest on `decode_eq_some_iff`,
which says what a word decodes to by the checks it fails, and on `selects_iff`, which says that the row numbered `OP`
selects exactly the words of that `OP` that fail no check. -/

namespace Sys2Proof

open Sys2Proof.Laws Sys2Proof.Machine

/-! ### The checks of the procedure (R43) -/

theorem reservedBy_eq_nil_iff {op : BitVec 4} {m : BitVec 1} {z : BitVec 3} {a : Operand} :
    reservedBy op m z a = [] ↔
      z = 0#3 ∧ op.toNat < 11 ∧ ¬ (modeMustBeZero op = true ∧ m = 1#1) ∧ spareBitSet op a = false := by
  simp [reservedBy]

theorem modeMustBeZero_iff (op : BitVec 4) :
    modeMustBeZero op = true ↔ op.toNat = 1 ∨ op.toNat = 2 ∨ op.toNat = 3 ∨ op.toNat = 4 ∨ op.toNat = 5 ∨
      op.toNat = 6 ∨ op.toNat = 7 ∨ op.toNat = 10 := by
  revert op; decide

/-- A field is zero as bits exactly if it is zero as a number. -/
theorem field_eq_zero_iff {n : Nat} (v : BitVec n) (lo w : Nat) :
    v.extractLsb' lo w = 0#w ↔ v.toNat / 2 ^ lo % 2 ^ w = 0 := by
  rw [← toNat_field, ← BitVec.toNat_inj, BitVec.toNat_zero]

/-- The must-be-zero bits of `A`, on `A` as a number (R42). -/
theorem spareBitSet_iff (op : BitVec 4) (a : Operand) :
    spareBitSet op a = true ↔
      ((op.toNat = 0 ∨ op.toNat = 1 ∨ op.toNat = 8 ∨ op.toNat = 10) ∧ bitsOf a.toNat 23 16 ≠ 0) ∨
      (op.toNat = 2 ∧ bitsOf a.toNat 23 5 ≠ 0) ∨ (op.toNat = 3 ∧ bitsOf a.toNat 23 6 ≠ 0) ∨
      ((op.toNat = 4 ∨ op.toNat = 5 ∨ op.toNat = 6 ∨ op.toNat = 7) ∧ bitsOf a.toNat 23 8 ≠ 0) ∨
      (op.toNat = 9 ∧ (bitsOf a.toNat 23 21 ≠ 0 ∨ bitsOf a.toNat 15 14 ≠ 0 ∨ bitsOf a.toNat 7 5 ≠ 0)) := by
  unfold spareBitSet
  split <;> simp_all [field_eq_zero_iff, bitsOf, or_assoc]

/-! ### Decoding -/

theorem selectUnit_opCode {op : BitVec 4} {m : BitVec 1} {a : Operand} {i : Instr} (h : selectUnit op m a = some i) :
    i.opCode = op := by
  apply BitVec.eq_of_toNat_eq
  unfold selectUnit at h
  split at h <;> cases h
  all_goals simp_all [Instr.opCode]

theorem exists_selectUnit {op : BitVec 4} (m : BitVec 1) (a : Operand) (h : op.toNat < 11) :
    ∃ i, selectUnit op m a = some i := by
  unfold selectUnit
  split
  case h_12 =>
    simp only [imp_false] at *
    omega
  all_goals exact ⟨_, rfl⟩

theorem decode_eq_some_iff {w : OpWord} {i : Instr} :
    decode w = some i ↔ w.reservedReasons = [] ∧ selectUnit w.opField w.modeField w.operandField = some i := by
  simp [decode, decodeFields, OpWord.reservedReasons]

/-- A word that fails no check decodes to an operation of unit `OP`, and a word that decodes is such a word (R43). -/
theorem exists_decode_iff {w : OpWord} {op : BitVec 4} :
    (∃ i, decode w = some i ∧ i.opCode = op) ↔ w.opField = op ∧ w.reservedReasons = [] := by
  simp only [decode_eq_some_iff]
  constructor
  · rintro ⟨i, ⟨hr, hi⟩, rfl⟩
    exact ⟨(selectUnit_opCode hi).symm, hr⟩
  · rintro ⟨rfl, hr⟩
    obtain ⟨-, hop, -, -⟩ := reservedBy_eq_nil_iff.mp hr
    obtain ⟨i, hi⟩ := exists_selectUnit w.modeField w.operandField hop
    exact ⟨i, ⟨hr, hi⟩, selectUnit_opCode hi⟩

theorem decode_eq_none_of_reserved {w : OpWord} (h : w.reservedReasons ≠ []) : decode w = none := by
  rw [Option.eq_none_iff_forall_ne_some]
  exact fun i hi => h (decode_eq_some_iff.mp hi).1

/-! ### The rows of the map, field by field (R41) -/

/-- Ones on `len` bits of `A` from bit `lo` up. -/
def laneMask (lo len : Nat) : Operand := (BitVec.allOnes len).setWidth 24 <<< lo

theorem and_laneMask_eq_zero_iff {a : Operand} {lo len : Nat} (h : lo + len ≤ 24) :
    a &&& laneMask lo len = 0#24 ↔ a.extractLsb' lo len = 0#len := by
  constructor
  · intro hmask
    ext i hi
    have hbit := congrArg (·.getLsbD (lo + i)) hmask
    simpa [laneMask, hi, show lo + i < 24 by omega, show i < 24 by omega] using hbit
  · intro hlane
    ext j hj
    rw [BitVec.getElem_and, BitVec.getElem_zero]
    by_cases hj' : lo ≤ j ∧ j - lo < len
    · have hbit := congrArg (·.getLsbD (j - lo)) hlane
      have ha : a[j] = false := by simpa [hj', Nat.add_sub_cancel' hj'.1, BitVec.getLsbD_eq_getElem hj] using hbit
      rw [ha, Bool.false_and]
    · have hout : (laneMask lo len)[j] = false := by
        simp only [laneMask, BitVec.getElem_shiftLeft, BitVec.getElem_setWidth, BitVec.getLsbD_allOnes,
          Bool.and_eq_false_iff, Bool.not_eq_false', decide_eq_true_eq, decide_eq_false_iff_not]
        omega
      rw [hout, Bool.and_false]

/-- The bits of `A` under the mask of unit `op`: its must-be-zero bits (R41, R42). -/
def spareMask (op : BitVec 4) : Operand :=
  match op.toNat with
  | 0 | 1 | 8 | 10 => laneMask 16 8
  | 2 => laneMask 5 19
  | 3 => laneMask 6 18
  | 4 | 5 | 6 | 7 => laneMask 8 16
  | 9 => laneMask 21 3 ||| laneMask 14 2 ||| laneMask 5 3
  | _ => 0#24

theorem and_spareMask_eq_zero_iff (op : BitVec 4) (a : Operand) :
    a &&& spareMask op = 0#24 ↔ spareBitSet op a = false := by
  unfold spareBitSet
  split <;> simp_all [spareMask, and_laneMask_eq_zero_iff, BitVec.and_or_distrib_left, BitVec.or_eq_zero_iff, and_assoc]

theorem and_ofBool_eq_zero_iff (m : BitVec 1) (b : Bool) : m &&& BitVec.ofBool b = 0#1 ↔ ¬ (b = true ∧ m = 1#1) := by
  revert m b; decide

theorem OpWord.assemble_inj {op op' : BitVec 4} {m m' : BitVec 1} {z z' : BitVec 3} {a a' : Operand} :
    OpWord.assemble op m z a = OpWord.assemble op' m' z' a' ↔ op = op' ∧ m = m' ∧ z = z' ∧ a = a' := by
  constructor
  · intro h
    exact ⟨by simpa using congrArg OpWord.opField h, by simpa using congrArg OpWord.modeField h,
      by simpa using congrArg OpWord.zeroField h, by simpa using congrArg OpWord.operandField h⟩
  · rintro ⟨rfl, rfl, rfl, rfl⟩
    rfl

/-- The row numbered `op`, field by field: its mask is on `OP` and `Z`, on `M` where `M` must be 0, and on the
must-be-zero bits of `A`; its match is `op` alone. -/
theorem opTable_row {op : BitVec 4} {r : OpRow} (h : opTable[op.toNat]? = some r) :
    op.toNat < 11 ∧ r.mask = OpWord.assemble 15#4 (.ofBool (modeMustBeZero op)) 7#3 (spareMask op) ∧
      r.matchBits = OpWord.assemble op 0#1 0#3 0#24 := by
  have rows : ∀ op : BitVec 4, ∀ r ∈ opTable[op.toNat]?, op.toNat < 11 ∧
      r.mask = OpWord.assemble 15#4 (.ofBool (modeMustBeZero op)) 7#3 (spareMask op) ∧
      r.matchBits = OpWord.assemble op 0#1 0#3 0#24 := by decide
  exact rows op r h

/-- The row numbered `op` selects exactly the words of unit `op` that fail no check of the procedure. -/
theorem selects_iff {op : BitVec 4} {r : OpRow} (hr : opTable[op.toNat]? = some r) (w : OpWord) :
    w &&& r.mask = r.matchBits ↔ w.opField = op ∧ w.reservedReasons = [] := by
  obtain ⟨hop, hmask, hmatch⟩ := opTable_row hr
  have fields : w &&& r.mask = OpWord.assemble w.opField (w.modeField &&& .ofBool (modeMustBeZero op)) w.zeroField
      (w.operandField &&& spareMask op) := by
    have hz : w.zeroField &&& 7#3 = w.zeroField := BitVec.and_allOnes
    have ho : w.opField &&& 15#4 = w.opField := BitVec.and_allOnes
    conv_lhs => rw [← w.assemble_fields, hmask, EncodesItsRow.assemble_and, hz, ho]
  rw [fields, hmatch, OpWord.assemble_inj, and_ofBool_eq_zero_iff, and_spareMask_eq_zero_iff, OpWord.reservedReasons,
    reservedBy_eq_nil_iff]
  constructor
  · rintro ⟨rfl, hm, hz, ha⟩
    exact ⟨rfl, hz, hop, hm, ha⟩
  · rintro ⟨rfl, hz, -, hm, ha⟩
    exact ⟨rfl, hm, hz, ha⟩

/-- Every row has a unit number. -/
theorem exists_opTable_row {r : OpRow} (h : r ∈ opTable) : ∃ op : BitVec 4, opTable[op.toNat]? = some r := by
  revert r; decide

/-- Every unit number has a row. -/
theorem exists_row_of_lt {op : BitVec 4} (h : op.toNat < 11) : ∃ r, opTable[op.toNat]? = some r :=
  ⟨_, List.getElem?_eq_getElem h⟩

/-- The mnemonics of the map name its rows, and an operation's is that of its row. -/
theorem mnemonic_eq_iff {op : BitVec 4} {r : OpRow} (hr : opTable[op.toNat]? = some r) (i : Instr) :
    i.mnemonic = r.mnemonic ↔ i.opCode = op := by
  have names : ∀ op op' : BitVec 4, ∀ r ∈ opTable[op.toNat]?, ∀ r' ∈ opTable[op'.toNat]?,
    (r.mnemonic = r'.mnemonic ↔ op = op') := by decide
  have own : ∃ r ∈ opTable[i.opCode.toNat]?, r.mnemonic = i.mnemonic := by
    cases i <;> exact ⟨_, rfl, rfl⟩
  obtain ⟨r', hr', hi⟩ := own
  rw [← hi]
  exact names _ _ _ hr' _ hr

/-- A word fails a check of the procedure exactly if it matches no row of the map (R41, R43). -/
theorem reserved_iff_no_row {w : OpWord} :
    w.reservedReasons ≠ [] ↔ ∀ r ∈ opTable, w &&& r.mask ≠ r.matchBits := by
  constructor
  · intro h r hmem hsel
    obtain ⟨op, hr⟩ := exists_opTable_row hmem
    exact h ((selects_iff hr w).mp hsel).2
  · intro h hn
    obtain ⟨-, hop, -, -⟩ := reservedBy_eq_nil_iff.mp hn
    obtain ⟨r, hr⟩ := exists_row_of_lt hop
    exact h r (List.mem_of_getElem? hr) ((selects_iff hr w).mpr ⟨rfl, hn⟩)

/-- Settles O3: the row numbered `OP` selects the words that decode to unit `OP` (`selects_iff`, `exists_decode_iff`). -/
theorem operationMap : Obligations.OperationMap := by
  unfold Obligations.OperationMap
  refine ⟨rfl, fun w r hmem => ?_, fun w r r' hmem hmem' h h' => ?_, fun s h => ?_⟩
  · obtain ⟨op, hr⟩ := exists_opTable_row hmem
    simp only [mnemonic_eq_iff hr]
    rw [selects_iff hr, exists_decode_iff]
  · obtain ⟨op, hr⟩ := exists_opTable_row hmem
    obtain ⟨op', hr'⟩ := exists_opTable_row hmem'
    obtain ⟨rfl, -⟩ := (selects_iff hr w).mp h
    obtain ⟨rfl, -⟩ := (selects_iff hr' w).mp h'
    exact Option.some.inj (hr.symm.trans hr')
  · exact step_of_reserved (decode_eq_none_of_reserved (reserved_iff_no_row.mpr h))

/-- The checks of the procedure on the word as a number, one disjunct for each of steps 2 to 5 (R43). -/
theorem reserved_iff_numbers {w : OpWord} :
    w.reservedReasons ≠ [] ↔ w.zeroField.toNat ≠ 0 ∨ 11 ≤ w.opField.toNat ∨
      (modeMustBeZero w.opField = true ∧ w.modeField.toNat = 1) ∨ spareBitSet w.opField w.operandField = true := by
  rw [OpWord.reservedReasons, ne_eq, reservedBy_eq_nil_iff]
  have hz : w.zeroField = 0#3 ↔ w.zeroField.toNat = 0 := BitVec.toNat_inj.symm
  have hm : w.modeField = 1#1 ↔ w.modeField.toNat = 1 := BitVec.toNat_inj.symm
  simp only [hz, hm, ← Bool.not_eq_true, not_and_or, not_or, not_not, not_lt, ne_eq]

/-- Settles O4: the four checks on numbers are those of the decoder (`reserved_iff_numbers`), and a word that fails
none of them decodes to an operation of its unit (`exists_decode_iff`). -/
theorem decodingProcedure : Obligations.DecodingProcedure := by
  unfold Obligations.DecodingProcedure
  intro s
  have hop : bitsOf s.opw.toNat 31 28 = s.opw.opField.toNat := (toNat_field s.opw 28 4).symm
  have hm : bitsOf s.opw.toNat 27 27 = s.opw.modeField.toNat := (toNat_field s.opw 27 1).symm
  have hz : bitsOf s.opw.toNat 26 24 = s.opw.zeroField.toNat := (toNat_field s.opw 24 3).symm
  have ha : bitsOf s.opw.toNat 23 0 = s.opw.operandField.toNat := (toNat_field s.opw 0 24).symm
  simp only [hop, hm, hz, ha, ← modeMustBeZero_iff, ← spareBitSet_iff, ← reserved_iff_numbers]
  refine ⟨fun h => step_of_reserved (decode_eq_none_of_reserved h), fun h => ?_, reserved_iff_no_row⟩
  obtain ⟨i, hi, hcode⟩ := exists_decode_iff.mpr ⟨rfl, not_not.mp h⟩
  obtain ⟨v, hv⟩ := exec_drives i
  exact ⟨i, s.driveY v, hi, congrArg BitVec.toNat hcode, hv s, (step_of_decode hi).trans (hv s)⟩

end Sys2Proof

/-! # The linear channel scalers

Proofs of the family spec/40_channel_linear.md: O10 to O13 (rules R51 to R54) and O31 (rule R50). The facts about scaling
are proved once for every divisor `q` and every full scale `p`, and read off for the four units; a step on the word of an
operation is that operation because decoding inverts encoding (`decode_encode`). -/

namespace Sys2Proof

open Sys2Proof.Laws Sys2Proof.Machine

/-! ### Decoding inverts encoding (R41 to R43) -/

theorem encode_selects_its_row (i : Instr) : EncodesItsRow.Statement i := by
  cases i with
  | rgb565UnpackChannel5 sel pix => exact EncodesItsRow.rgb565UnpackChannel5 sel pix
  | rgb565UnpackChannel6 pix => exact EncodesItsRow.rgb565UnpackChannel6 pix
  | channel5ToChannel8Linear c5 => exact EncodesItsRow.channel5ToChannel8Linear c5
  | channel6ToChannel8Linear c6 => exact EncodesItsRow.channel6ToChannel8Linear c6
  | channel8ToChannel5Linear c8 => exact EncodesItsRow.channel8ToChannel5Linear c8
  | channel8ToChannel6Linear c8 => exact EncodesItsRow.channel8ToChannel6Linear c8
  | srgbGammaExpandLut s8 => exact EncodesItsRow.srgbGammaExpandLut s8
  | srgbGammaCompressLut l8 => exact EncodesItsRow.srgbGammaCompressLut l8
  | rgb565PixelUnpack order pix => exact EncodesItsRow.rgb565PixelUnpack order pix
  | rgb565PixelPack order r5 g6 b5 => exact EncodesItsRow.rgb565PixelPack order r5 g6 b5
  | endiannessSwap16b d => exact EncodesItsRow.endiannessSwap16b d

/-- An encoded operation fails no check of the procedure, since it selects a row. -/
theorem reservedReasons_encode (i : Instr) : (encode i).reservedReasons = [] := by
  obtain ⟨r, hmem, -, hsel⟩ := encode_selects_its_row i
  by_contra h
  exact reserved_iff_no_row.mp h r hmem (beq_iff_eq.mp hsel)

theorem decode_encode (i : Instr) : decode (encode i) = some i := by
  have lane {k n : Nat} (v : BitVec n) : (0#k ++ v).extractLsb' 0 n = v := BitVec.extractLsb'_append_eq_right
  have unit : selectUnit i.opCode i.modeBit i.operandBits = some i := by
    cases i with
    | rgb565UnpackChannel5 sel pix =>
      exact congrArg some (congrArg₂ Instr.rgb565UnpackChannel5 sel.ofBit_toBit (lane pix))
    | rgb565PixelUnpack order pix =>
      exact congrArg some (congrArg₂ Instr.rgb565PixelUnpack order.ofBit_toBit (lane pix))
    | rgb565PixelPack order r5 g6 b5 =>
      have h := tripleOfResult_resultTriple ⟨r5, g6, b5⟩
      exact congrArg some (congrArg₂ (fun o (t : FieldTriple) => Instr.rgb565PixelPack o t.r5 t.g6 t.b5)
        order.ofBit_toBit h)
    | _ => simp [selectUnit, Instr.opCode, Instr.operandBits, lane]
  refine decode_eq_some_iff.mpr ⟨reservedReasons_encode i, ?_⟩
  simpa [encode] using unit

end Sys2Proof

namespace Sys2Proof.Machine

open Sys2Proof.Laws

/-! ### An operation and its word (R40) -/

/-- A step on the word of an operation is that operation (R40, R43). -/
theorem step_encode (i : Instr) (y : Result) :
    step { opw := encode i, y := y } = exec i { opw := encode i, y := y } :=
  step_of_decode (decode_encode i)

/-- An operation that drives the low lane with `v`, in every state: what it and its word answer, as numbers. -/
theorem exec_and_step_of_drives_low {i : Instr} {n : Nat} {v : BitVec n}
    (h : ∀ s, exec i s = .next (s.driveY (resultLow v))) (s : State) :
    exec i s = .next { s with y := BitVec.ofNat 24 v.toNat } ∧
      step { s with opw := encode i } = .next { opw := encode i, y := BitVec.ofNat 24 v.toNat } := by
  have hv : resultLow v = BitVec.ofNat 24 v.toNat := (BitVec.ofNat_toNat 24 v).symm
  rw [step_encode, h, h, hv]
  exact ⟨rfl, rfl⟩

/-- The word of an operation without a mode whose one operand, `v`, is the low lane of `A` (R40, R42). -/
theorem encode_eq_wordOf_of_lane {i : Instr} {k n : Nat} {v : BitVec n} (hk : k + n = 24) (hm : i.modeBit = 0#1)
    (ha : i.operandBits = (0#k ++ v).cast hk) : encode i = wordOf i.opCode.toNat 0 v.toNat := by
  have hv : i.operandBits.toNat = v.toNat := by
    rw [ha, BitVec.toNat_cast, toNat_concat]
    simp
  rw [encode_eq_wordOf, hm, hv, BitVec.toNat_zero]

/-! ### The shared scaling (R50, R55, R56) -/

theorem scale_eq (q p c : Nat) : scale Config.roundMode q p c = (2 * (c * p) + q) / (2 * q) := rfl

theorem scale_le {q p c : Nat} (hc : c ≤ q) (hq : 0 < q) : scale Config.roundMode q p c ≤ p := by
  rw [scale_eq, ← Nat.lt_add_one_iff, Nat.div_lt_iff_lt_mul (by omega)]
  have h : c * p ≤ q * p := Nat.mul_le_mul_right p hc
  have e : (p + 1) * (2 * q) = 2 * (q * p) + 2 * q := by ring
  omega

theorem scale_mono {q p c d : Nat} (h : c ≤ d) : scale Config.roundMode q p c ≤ scale Config.roundMode q p d := by
  have := Nat.mul_le_mul_right p h
  exact Nat.div_le_div_right (by omega)

/-- Widening keeps different inputs apart: one step of the input adds at least one to the quotient. -/
theorem scale_strictMono {q p c d : Nat} (hq : 0 < q) (hqp : q ≤ p) (h : c < d) :
    scale Config.roundMode q p c < scale Config.roundMode q p d := by
  have step : c * p + q ≤ d * p := by
    have := Nat.mul_le_mul_right p (show c + 1 ≤ d from h)
    rw [Nat.succ_mul] at this
    omega
  calc (2 * (c * p) + q) / (2 * q) < (2 * (c * p) + q) / (2 * q) + 1 := Nat.lt_succ_self _
    _ = (2 * (c * p) + q + 2 * q) / (2 * q) := (Nat.add_div_right _ (by omega)).symm
    _ ≤ (2 * (d * p) + q) / (2 * q) := Nat.div_le_div_right (by omega)

/-- The shorter of the two formulas of R51 to R54: halving numerator and divisor loses nothing. -/
theorem scale_odd_eq (k p c : Nat) : scale Config.roundMode (2 * k + 1) p c = (c * p + k) / (2 * k + 1) := by
  rw [scale_eq, ← Nat.div_div_eq_div_mul]
  congr 1
  omega

/-- The scaled value is strictly less than one half from `c * p / q`: with `q` odd there is no tie (R50, R55). -/
theorem scale_odd_nearest (k p c : Nat) :
    2 * (p * c) < (2 * k + 1) * (2 * scale Config.roundMode (2 * k + 1) p c + 1) ∧
      (2 * k + 1) * (2 * scale Config.roundMode (2 * k + 1) p c) < 2 * (p * c) + (2 * k + 1) := by
  obtain ⟨lower, upper⟩ := (roundHalfUp_eq_iff (p := c * p) (Nat.succ_pos (2 * k))).mp
    (show roundHalfUp (c * p) (2 * k + 1) = scale Config.roundMode (2 * k + 1) p c from rfl)
  rw [Nat.succ_eq_add_one, Nat.mul_comm _ (2 * k + 1), Nat.mul_comm c p] at lower upper
  refine ⟨upper, lt_of_le_of_ne lower fun tie => ?_⟩
  rw [Nat.mul_left_comm] at tie
  omega

/-- No result is truncated by its port (R56). -/
theorem toNat_ofNat_scale {q p c n : Nat} (hc : c ≤ q) (hq : 0 < q) (hp : p < 2 ^ n) :
    (BitVec.ofNat n (scale Config.roundMode q p c)).toNat = scale Config.roundMode q p c := by
  rw [BitVec.toNat_ofNat, Nat.mod_eq_of_lt ((scale_le hc hq).trans_lt hp)]

theorem widen5_toNat (c : Channel5) : (widen5 c).toNat = scale Config.roundMode 31 255 c.toNat :=
  toNat_ofNat_scale (Nat.le_of_lt_succ c.isLt) (by decide) (by decide)

theorem widen6_toNat (c : Channel6) : (widen6 c).toNat = scale Config.roundMode 63 255 c.toNat :=
  toNat_ofNat_scale (Nat.le_of_lt_succ c.isLt) (by decide) (by decide)

theorem narrow5_toNat (c : Channel8) : (narrow5 c).toNat = scale Config.roundMode 255 31 c.toNat :=
  toNat_ofNat_scale (Nat.le_of_lt_succ c.isLt) (by decide) (by decide)

theorem narrow6_toNat (c : Channel8) : (narrow6 c).toNat = scale Config.roundMode 255 63 c.toNat :=
  toNat_ofNat_scale (Nat.le_of_lt_succ c.isLt) (by decide) (by decide)

/-! ### What the four units have in common -/

/-- What R51 to R54 say alike of each unit: the answer, as an operation and as a step on its word, by the first formula
of the rule; the second formula; and the bound. -/
theorem scaler_answers {i : Instr} {w : OpWord} {n k p x : Nat} {v : BitVec n}
    (hexec : ∀ s, exec i s = .next (s.driveY (resultLow v))) (hw : encode i = w)
    (hv : v.toNat = scale Config.roundMode (2 * k + 1) p x) (hx : x ≤ 2 * k + 1) (s : State) :
    let f := (2 * p * x + (2 * k + 1)) / (2 * (2 * k + 1))
    exec i s = .next { s with y := BitVec.ofNat 24 f } ∧
      step { s with opw := w } = .next { opw := w, y := BitVec.ofNat 24 f } ∧
      f = (p * x + k) / (2 * k + 1) ∧ f ≤ p := by
  have hf : scale Config.roundMode (2 * k + 1) p x = (2 * p * x + (2 * k + 1)) / (2 * (2 * k + 1)) := by
    rw [scale_eq, Nat.mul_comm x p, Nat.mul_assoc]
  obtain ⟨hex, hstep⟩ := exec_and_step_of_drives_low hexec s
  rw [hv, hf] at hex hstep
  rw [hw] at hstep
  refine ⟨hex, hstep, ?_, ?_⟩
  · rw [← hf, scale_odd_eq, Nat.mul_comm]
  · rw [← hf]
    exact scale_le hx (Nat.succ_pos _)

/-- What R50 says alike of each unit. -/
theorem scaler_nearest {i : Instr} {n k p x : Nat} {v : BitVec n} (hn : n ≤ 24)
    (hexec : ∀ s, exec i s = .next (s.driveY (resultLow v)))
    (hv : v.toNat = scale Config.roundMode (2 * k + 1) p x) (s : State) :
    ∃ t, exec i s = .next t ∧ 2 * (p * x) < (2 * k + 1) * (2 * t.y.toNat + 1) ∧
      (2 * k + 1) * (2 * t.y.toNat) < 2 * (p * x) + (2 * k + 1) := by
  refine ⟨_, hexec s, ?_⟩
  rw [State.driveY_y, resultLow_toNat v hn, hv]
  exact scale_odd_nearest k p x

/-! ### U2 (R51) -/

/-- Settles O10: the common part for `q = 31`, and `scale_strictMono`, since 31 ≤ 255. -/
theorem channel5ToChannel8Result : Obligations.Channel5ToChannel8Result := by
  unfold Obligations.Channel5ToChannel8Result
  refine ⟨fun c s => ?_, rfl, rfl, rfl, fun c d h => ?_⟩
  · exact scaler_answers (k := 15) (fun _ => rfl) (encode_eq_wordOf_of_lane rfl rfl rfl) (widen5_toNat c)
      (Nat.le_of_lt_succ c.isLt) s
  · rw [BitVec.lt_def, widen5_toNat, widen5_toNat]
    exact scale_strictMono (by decide) (by decide) h

/-! ### U3 (R52) -/

/-- U3 is `4 * c` and one more for each twenty-one inputs, the first at 11. -/
theorem scale_63_255_eq (c : Nat) : scale Config.roundMode 63 255 c = 4 * c + (c + 10) / 21 := by
  rw [scale_eq]
  omega

theorem scale_63_255_succ (c : Nat) :
    scale Config.roundMode 63 255 (c + 1) = scale Config.roundMode 63 255 c + if c % 21 = 10 then 5 else 4 := by
  rw [scale_63_255_eq, scale_63_255_eq]
  split <;> omega

/-- Settles O11: the common part for `q = 63`; the listed inputs are those that are 10 modulo 21 (`scale_63_255_succ`). -/
theorem channel6ToChannel8Result : Obligations.Channel6ToChannel8Result := by
  unfold Obligations.Channel6ToChannel8Result
  refine ⟨fun c s => ?_, rfl, rfl, rfl, fun c h => ?_⟩
  · exact scaler_answers (k := 31) (fun _ => rfl) (encode_eq_wordOf_of_lane rfl rfl rfl) (widen6_toNat c)
      (Nat.le_of_lt_succ c.isLt) s
  · have hlt : c.toNat < 63 := h
    have hsucc : (c + 1#6).toNat = c.toNat + 1 := by
      rw [BitVec.toNat_add_of_lt]
      · rfl
      · exact Nat.succ_lt_succ hlt
    have hextra : (c = 10#6 ∨ c = 31#6 ∨ c = 52#6) ↔ c.toNat % 21 = 10 := by
      simp only [← BitVec.toNat_inj, BitVec.toNat_ofNat]
      omega
    rw [widen6_toNat, widen6_toNat, hsucc, scale_63_255_succ]
    simp only [hextra]

/-! ### U4 (R53) -/

theorem length_filter_range_between (n a b : Nat) :
    ((List.range n).filter (fun x => decide (a ≤ x ∧ x < b))).length = min n b - a := by
  simp only [Bool.decide_and]
  rw [← List.filter_filter, ← List.Ico.zero_bot, List.Ico.filter_lt, List.Ico.filter_le, List.Ico.length, Nat.zero_max]

/-- The first input for which U4 gives at least `k`: `(510 * k - 255) / 62`, rounded up. -/
def narrow5First (k : Nat) : Nat := (510 * k - 255 + 61) / 62

/-- The inputs for which U4 gives `k` run from the first that gives at least `k` to the first for `k + 1`. -/
theorem scale_255_31_eq_iff (x k : Nat) :
    scale Config.roundMode 255 31 x = k ↔ narrow5First k ≤ x ∧ x < narrow5First (k + 1) := by
  rw [scale_eq, narrow5First, narrow5First]
  omega

theorem narrow5_ofNat_toNat {x : Nat} (hx : x < 256) :
    (narrow5 (BitVec.ofNat 8 x)).toNat = scale Config.roundMode 255 31 x := by
  rw [narrow5_toNat, BitVec.toNat_ofNat, Nat.mod_eq_of_lt hx]

theorem narrow5_fibre_length (k : Channel5) :
    ((List.range 256).filter (fun x => narrow5 (BitVec.ofNat 8 x) == k)).length =
      min 256 (narrow5First (k.toNat + 1)) - narrow5First k.toNat := by
  rw [← length_filter_range_between]
  congr 1
  apply List.filter_congr
  intro x hx
  rw [beq_eq_decide, decide_eq_decide, ← BitVec.toNat_inj, narrow5_ofNat_toNat (List.mem_range.mp hx),
    scale_255_31_eq_iff]

/-- Settles O12: the common part for `q = 255`; the inputs of each output are an interval (`narrow5_fibre_length`), and
the inputs at which truncation differs are counted by evaluation. -/
theorem channel8ToChannel5Result : Obligations.Channel8ToChannel5Result := by
  unfold Obligations.Channel8ToChannel5Result
  refine ⟨fun c s => ?_, rfl, rfl, rfl, fun c d h => ?_, fun k => ?_, by decide, rfl, fun c h => ?_⟩
  · exact scaler_answers (k := 127) (fun _ => rfl) (encode_eq_wordOf_of_lane rfl rfl rfl) (narrow5_toNat c)
      (Nat.le_of_lt_succ c.isLt) s
  · rw [BitVec.le_def, narrow5_toNat, narrow5_toNat]
    exact scale_mono h
  · simp only [narrow5_fibre_length, narrow5First, ← BitVec.toNat_inj, BitVec.toNat_ofNat]
    split <;> omega
  · have hlt : c.toNat < 5 := h
    rw [narrow5_toNat, scale_eq]
    omega

/-! ### U5 (R54) -/

/-- Settles O13: the common part for `q = 255`; the inputs at which truncation differs are counted by evaluation. -/
theorem channel8ToChannel6Result : Obligations.Channel8ToChannel6Result := by
  unfold Obligations.Channel8ToChannel6Result
  refine ⟨fun c s => ?_, rfl, rfl, rfl, fun c d h => ?_, by decide⟩
  · exact scaler_answers (k := 127) (fun _ => rfl) (encode_eq_wordOf_of_lane rfl rfl rfl) (narrow6_toNat c)
      (Nat.le_of_lt_succ c.isLt) s
  · rw [BitVec.le_def, narrow6_toNat, narrow6_toNat]
    exact scale_mono h

/-! ### Nearest (R50) -/

/-- Settles O31: 31, 63 and 255 are odd, so the scaled value lies at no tie (`scale_odd_nearest`). -/
theorem scalersAreNearest : Obligations.ScalersAreNearest := by
  unfold Obligations.ScalersAreNearest
  refine ⟨fun c => ?_, fun c => ?_, fun c => ?_, fun c => ?_⟩
  · exact scaler_nearest (k := 15) (by decide) (fun _ => rfl) (widen5_toNat c)
  · exact scaler_nearest (k := 31) (by decide) (fun _ => rfl) (widen6_toNat c)
  · exact scaler_nearest (k := 127) (by decide) (fun _ => rfl) (narrow5_toNat c)
  · exact scaler_nearest (k := 127) (by decide) (fun _ => rfl) (narrow6_toNat c)

end Sys2Proof.Machine

/-! # The gamma units and their tables

Proofs of the family spec/41_srgb_gamma.md: O14 and O15 (rules R62 and R63), O26 and O27 (rules R64 and R65). The two
real-valued formulas reduce to the exact rational test of rule R66: rounding gives at least `k` exactly if the value
reaches the lower edge of `k` (`le_quantise_iff`), and an edge is compared with the power `5/12` or `12/5` by raising
both sides to the twelfth or the fifth power (`le_enc_iff`, `le_dec_iff`). What is then left of each table is a
comparison of rationals at every entry, evaluated in one pass over the table with its indices. -/

namespace Sys2Proof.Machine

open Sys2Proof.Laws

/-! ### Rounding over the reals (R64, R65, R98) -/

/-- A value rounds to at least `k` exactly if it reaches `k - 1/2`, on the scale of 1. -/
theorem le_quantise_iff {n : ℕ} (hn : 0 < n) (x : ℝ) (k : ℕ) :
    (k : ℤ) ≤ quantise n x ↔ (2 * k - 1) / (2 * n) ≤ x := by
  rw [quantise, Int.le_floor, div_le_iff₀ (by positivity), Int.cast_natCast]
  constructor <;> intro h <;> linarith

theorem quantise_eq_iff (n : ℕ) (x : ℝ) (k : ℕ) :
    quantise n x = k ↔ (k : ℤ) ≤ quantise n x ∧ ¬ ((k + 1 : ℕ) : ℤ) ≤ quantise n x := by
  omega

/-- On a quotient of whole numbers, rounding over the reals is `round_half_up` (R8). -/
theorem quantise_div (n a : ℕ) {b : ℕ} (hb : 0 < b) : quantise n ((a : ℝ) / b) = roundHalfUp (n * a) b := by
  have h : (n : ℝ) * (a / b) + 1 / 2 = ((2 * (n * a) + b : ℕ) : ℝ) / (2 * b : ℕ) := by
    push_cast
    field_simp
  rw [quantise, h, Int.floor_div_natCast, Int.floor_natCast, roundHalfUp, Int.natCast_div]

/-! ### The transfer functions compared with an edge (R60, R61) -/

/-- Where `enc` is a power, it reaches `t` exactly if the twelfth power of the base that `t` stands for is at most
`c ^ 5`: `1/2.4 = 5/12`. -/
theorem le_enc_iff {c t : ℝ} (hc : 0.0031308 < c) (ht : 0 ≤ t + 0.055) :
    t ≤ enc c ↔ ((t + 0.055) / 1.055) ^ 12 ≤ c ^ 5 := by
  have hc0 : 0 ≤ c := le_trans (by norm_num) hc.le
  have hpow : (c ^ ((1 : ℝ) / 2.4)) ^ 12 = c ^ 5 := by
    rw [← Real.rpow_mul_natCast hc0, ← Real.rpow_natCast]
    norm_num
  rw [← hpow, pow_le_pow_iff_left₀ (by positivity) (Real.rpow_nonneg hc0 _) (by decide), div_le_iff₀ (by norm_num), enc,
    if_neg hc.not_ge, le_sub_iff_add_le, mul_comm]

/-- Where `dec` is a power, it reaches `t` exactly if `t ^ 5` is at most the twelfth power of its base: `2.4 = 12/5`.
Both sides hold of every `t` below 0, since 5 is odd. -/
theorem le_dec_iff {v t : ℝ} (hv : 12.92 * 0.0031308 < v) :
    t ≤ dec v ↔ t ^ 5 ≤ ((v + 0.055) / 1.055) ^ 12 := by
  have hv0 : 0 ≤ v := le_trans (by norm_num) hv.le
  have hpow : (((v + 0.055) / 1.055) ^ (2.4 : ℝ)) ^ 5 = ((v + 0.055) / 1.055) ^ 12 := by
    rw [← Real.rpow_mul_natCast (by positivity), ← Real.rpow_natCast]
    norm_num
  rw [← hpow, Odd.pow_le_pow (by decide), dec, if_neg hv.not_ge]

/-! ### The exact test (R66) -/

theorem le_quantise_enc_iff {i : ℕ} (hi : 1 ≤ i) (k : ℕ) :
    (k : ℤ) ≤ quantise 255 (enc ((i : ℝ) / 255)) ↔ lowerEdge k ^ 12 ≤ ((i : ℚ) / 255) ^ 5 := by
  have hc : (0.0031308 : ℝ) < (i : ℝ) / 255 := by
    have : (1 : ℝ) ≤ i := by exact_mod_cast hi
    linarith
  have hedge : ((2 * k - 1) / (2 * (255 : ℕ)) + 0.055) / 1.055 = (lowerEdge k : ℝ) := by
    rw [lowerEdge]
    push_cast
    norm_num
  have hpos : (0 : ℝ) ≤ (2 * k - 1) / (2 * (255 : ℕ)) + 0.055 := by
    have : (0 : ℝ) ≤ k := k.cast_nonneg
    norm_num1
    linarith
  rw [le_quantise_iff (by decide), le_enc_iff hc hpos, hedge, ← Rat.cast_le (K := ℝ)]
  push_cast
  rfl

theorem le_quantise_dec_iff {i : ℕ} (hi : 11 ≤ i) (k : ℕ) :
    (k : ℤ) ≤ quantise 255 (dec ((i : ℝ) / 255)) ↔ ((2 * (k : ℚ) - 1) / 510) ^ 5 ≤ encodedBase i ^ 12 := by
  have hv : (12.92 * 0.0031308 : ℝ) < (i : ℝ) / 255 := by
    have : (11 : ℝ) ≤ i := by exact_mod_cast hi
    linarith
  rw [le_quantise_iff (by decide), le_dec_iff hv, encodedBase, ← Rat.cast_le (K := ℝ)]
  push_cast
  norm_num

/-- The exact test of a `GCMP` entry says that `enc` rounds to it. -/
theorem quantise_enc_eq_iff_gcmpTest {i : ℕ} (hi : 1 ≤ i) (k : ℕ) :
    quantise 255 (enc ((i : ℝ) / 255)) = k ↔ gcmpTest i k := by
  rw [quantise_eq_iff, le_quantise_enc_iff hi, le_quantise_enc_iff hi, not_le, gcmpTest]

/-- The exact test of a `GEXP` entry says that `dec` rounds to it. -/
theorem quantise_dec_eq_iff_gexpTest {i : ℕ} (hi : 11 ≤ i) (k : ℕ) :
    quantise 255 (dec ((i : ℝ) / 255)) = k ↔ gexpTest i k := by
  have hnext : (2 * ((k + 1 : ℕ) : ℚ) - 1) = 2 * k + 1 := by
    push_cast
    ring
  rw [quantise_eq_iff, le_quantise_dec_iff hi, le_quantise_dec_iff hi, not_le, hnext, gexpTest]

/-- Codes up to 10 lie where `dec` is linear, and its value is the rational `25 * i / (323 * 255)`. -/
theorem quantise_dec_of_linear (n : ℕ) {i : ℕ} (hi : i ≤ 10) :
    quantise n (dec ((i : ℝ) / 255)) = roundHalfUp (n * (25 * i)) (323 * 255) := by
  have hv : (i : ℝ) / 255 ≤ 12.92 * 0.0031308 := by
    have : (i : ℝ) ≤ 10 := by exact_mod_cast hi
    linarith
  have hdec : dec ((i : ℝ) / 255) = ((25 * i : ℕ) : ℝ) / (323 * 255 : ℕ) := by
    rw [dec, if_pos hv]
    push_cast
    ring
  rw [hdec, quantise_div _ _ (by decide)]

/-! ### The entries of the tables -/

/-- What holds of every entry with its index holds of every read. -/
theorem Space.memRead_mem_zipIdx (sp : Space) (a : BitVec 8) :
    ((memRead sp a).toNat, a.toNat) ∈ sp.contents.zipIdx :=
  List.mem_zipIdx_iff_getElem?.mpr (sp.contents_getElem?_toNat a)

theorem gexpTable_passes_test : ∀ e ∈ gexpTable.zipIdx, 11 ≤ e.2 → gexpTest e.2 e.1 := by
  unfold gexpTest
  decide +kernel

theorem gexpTable_of_linear :
    ∀ e ∈ gexpTable.zipIdx, e.2 ≤ 10 → e.1 = roundHalfUp (255 * (25 * e.2)) (323 * 255) := by
  decide +kernel

theorem gcmpTable_passes_test : ∀ e ∈ gcmpTable.zipIdx, 1 ≤ e.2 → gcmpTest e.2 e.1 := by
  unfold gcmpTest
  decide +kernel

theorem gexpTable_bounds : ∀ e ∈ gexpTable.zipIdx,
    e.1 ≤ e.2 ∧ (e.2 ≤ 6 → e.1 = 0) ∧ (7 ≤ e.2 → e.2 ≤ 17 → e.1 = 1) := by
  decide +kernel

theorem gcmpTable_bounds : ∀ e ∈ gcmpTable.zipIdx, e.2 ≤ e.1 ∧ ¬ (1 ≤ e.1 ∧ e.1 ≤ 12) := by
  decide +kernel

/-- Both tables are non-decreasing (R67). -/
theorem Space.contents_sortedLE (sp : Space) : sp.contents.SortedLE := by
  cases sp <;> decide +kernel

/-- Equal entries are neighbours, so the distinct ones are counted by passing over repetitions. -/
theorem Space.contents_dedup_length (sp : Space) : sp.contents.dedup.length = 183 := by
  rw [← sp.contents_sortedLE.pairwise.destutter_eq_dedup]
  cases sp <;> decide +kernel

/-! ### The tables are the rounded functions (R64, R65) -/

/-- Settles O26: up to 10 `dec` is linear, and from 11 on the entry passes the exact test. -/
theorem gexpIsRoundedDec : Obligations.GexpIsRoundedDec := by
  unfold Obligations.GexpIsRoundedDec
  intro i
  have entry := Space.gexp.memRead_mem_zipIdx i
  rcases Nat.lt_or_ge 10 i.toNat with power | linear
  · have test := gexpTable_passes_test _ entry power
    exact ((quantise_dec_eq_iff_gexpTest power _).mpr test).symm
  · have value := gexpTable_of_linear _ entry linear
    rw [quantise_dec_of_linear 255 linear]
    exact congrArg Nat.cast value

/-- Settles O27: index 0 is where `enc` is linear, and every other entry passes the exact test. -/
theorem gcmpIsRoundedEnc : Obligations.GcmpIsRoundedEnc := by
  unfold Obligations.GcmpIsRoundedEnc
  intro i
  rcases Nat.eq_zero_or_pos i.toNat with zero | power
  · obtain rfl : i = 0#8 := BitVec.eq_of_toNat_eq zero
    have hread : memRead .gcmp 0#8 = 0#8 := rfl
    norm_num [hread, enc, quantise]
  · have test := gcmpTable_passes_test _ (Space.gcmp.memRead_mem_zipIdx i) power
    exact ((quantise_enc_eq_iff_gcmpTest power _).mpr test).symm

/-! ### What the two units answer (R62, R63) -/

/-- The entry at an 8-bit index, as the statements of R62 and R63 write it, is what `MemRead` returns. -/
theorem Space.contents_getD_toNat (sp : Space) (a : BitVec 8) :
    sp.contents.getD a.toNat 0 = (memRead sp a).toNat := by
  rw [List.getD_eq_getElem?_getD, sp.contents_getElem?_toNat, Option.getD_some]

/-- What R62 and R63 say alike of a unit that reads a space: its answer, as an operation and as a step on its word, by
the table's entry, and whatever holds of every entry with its index. -/
theorem tableUnit_answers {i : Instr} {w : OpWord} {sp : Space} {a : BitVec 8} {P : ℕ × ℕ → Prop}
    (hexec : ∀ s, exec i s = .next (s.driveY (resultLow (memRead sp a)))) (hw : encode i = w)
    (hP : ∀ e ∈ sp.contents.zipIdx, P e) (s : State) :
    let n := sp.contents.getD a.toNat 0
    exec i s = .next { s with y := BitVec.ofNat 24 n } ∧
      step { s with opw := w } = .next { opw := w, y := BitVec.ofNat 24 n } ∧ P (n, a.toNat) := by
  rw [sp.contents_getD_toNat, ← hw]
  obtain ⟨answer, onWord⟩ := exec_and_step_of_drives_low hexec s
  exact ⟨answer, onWord, hP _ (sp.memRead_mem_zipIdx a)⟩

/-- Settles O14: the common part for `GEXP`, whose entries are within `gexpTable_bounds`. -/
theorem gammaExpandResult : Obligations.GammaExpandResult := by
  unfold Obligations.GammaExpandResult
  refine ⟨fun s8 s => ?_, rfl, rfl, gexpTable_length, Space.gexp.contents_dedup_length⟩
  exact tableUnit_answers (sp := .gexp) (fun _ => rfl) (encode_eq_wordOf_of_lane rfl rfl rfl) gexpTable_bounds s

/-- Settles O15: the common part for `GCMP`, whose entries are within `gcmpTable_bounds`. -/
theorem gammaCompressResult : Obligations.GammaCompressResult := by
  unfold Obligations.GammaCompressResult
  refine ⟨fun l8 s => ?_, rfl, rfl, rfl, rfl, gcmpTable_length, Space.gcmp.contents_dedup_length⟩
  exact tableUnit_answers (sp := .gcmp) (fun _ => rfl) (encode_eq_wordOf_of_lane rfl rfl rfl) gcmpTable_bounds s

end Sys2Proof.Machine

/-! # The pixel field units

Proofs of the family spec/42_pixel_codec.md: O8 (rule R70), O9 (rule R71), O16 (rule R72) and O17 (rule R73). Each unit's
answer is reduced by `answers_of_drives` to two facts about numbers: the word it is encoded in, and its output. -/

namespace Sys2Proof.Machine

open Sys2Proof.Laws

/-! ### Words with a mode, and answers as numbers (R40, R42) -/

theorem encode_eq_wordOf_of_toNat {i : Instr} {m a : Nat} (hm : i.modeBit.toNat = m) (ha : i.operandBits.toNat = a) :
    encode i = wordOf i.opCode.toNat m a := by
  rw [encode_eq_wordOf, hm, ha]

/-- A pixel in the low lane of `A` (R42). -/
theorem toNat_pixelLane (pix : Pixel) : (0#8 ++ pix : Operand).toNat = pix.toNat := by
  rw [toNat_concat, BitVec.toNat_zero, Nat.zero_mul, Nat.zero_add]

/-- An operation that drives `y` with `v`, in every state: what it and its word answer, with `v` as a number. -/
theorem answers_of_drives {i : Instr} {w : OpWord} {v : Result} {n : Nat} (hexec : ∀ s, exec i s = .next (s.driveY v))
    (hw : encode i = w) (hv : v.toNat = n) (s : State) :
    exec i s = .next { s with y := BitVec.ofNat 24 n } ∧
      step { s with opw := w } = .next { opw := w, y := BitVec.ofNat 24 n } := by
  have low : ∀ s, exec i s = .next (s.driveY (resultLow v)) := by
    simpa only [resultLow, BitVec.setWidth_eq] using hexec
  subst hw hv
  exact exec_and_step_of_drives_low low s

/-! ### One field of a pixel (R70, R71) -/

theorem unpackChannel5_toNat (sel : FieldSel) (pix : Pixel) :
    (unpackChannel5 sel pix).toNat = if selCode sel = 1 then bitsOf pix.toNat 15 11 else bitsOf pix.toNat 4 0 := by
  cases sel with
  | lo => exact toNat_field pix 0 5
  | hi => exact toNat_field pix 11 5

theorem unpackChannel6_toNat (pix : Pixel) : (unpackChannel6 pix).toNat = bitsOf pix.toNat 10 5 :=
  toNat_field pix 5 6

/-- Settles O8: the field as a number (`unpackChannel5_toNat`), on the low lane. -/
theorem unpackChannel5Result : Obligations.UnpackChannel5Result := by
  unfold Obligations.UnpackChannel5Result
  intro sel pix s
  have word : encode (.rgb565UnpackChannel5 sel pix) = wordOf 0 (selCode sel) pix.toNat :=
    encode_eq_wordOf_of_toNat (selCode_eq sel).symm (toNat_pixelLane pix)
  exact answers_of_drives (fun _ => rfl) word
    ((resultLow_toNat _ (by decide)).trans (unpackChannel5_toNat sel pix)) s

/-- Settles O9: the field as a number (`unpackChannel6_toNat`), on the low lane. -/
theorem unpackChannel6Result : Obligations.UnpackChannel6Result := by
  unfold Obligations.UnpackChannel6Result
  intro pix s
  have word : encode (.rgb565UnpackChannel6 pix) = wordOf 1 0 pix.toNat :=
    encode_eq_wordOf_of_lane rfl rfl rfl
  exact answers_of_drives (fun _ => rfl) word ((resultLow_toNat _ (by decide)).trans (unpackChannel6_toNat pix)) s

/-! ### The three fields of a pixel (R72) -/

theorem pixelUnpack_r5_toNat (order : ComponentOrder) (pix : Pixel) :
    (pixelUnpack order pix).r5.toNat =
      if orderCode order = 0 then bitsOf pix.toNat 15 11 else bitsOf pix.toNat 4 0 := by
  cases order with
  | rgb565 => exact toNat_field pix 11 5
  | bgr565 => exact toNat_field pix 0 5

/-- Green is the middle field in both orders. -/
theorem pixelUnpack_g6_toNat (order : ComponentOrder) (pix : Pixel) :
    (pixelUnpack order pix).g6.toNat = bitsOf pix.toNat 10 5 := by
  cases order <;> exact toNat_field pix 5 6

theorem pixelUnpack_b5_toNat (order : ComponentOrder) (pix : Pixel) :
    (pixelUnpack order pix).b5.toNat =
      if orderCode order = 0 then bitsOf pix.toNat 4 0 else bitsOf pix.toNat 15 11 := by
  cases order with
  | rgb565 => exact toNat_field pix 0 5
  | bgr565 => exact toNat_field pix 11 5

/-- Settles O16: the three fields as numbers, in the lanes of `resultTriple_toNat`. -/
theorem pixelUnpackResult : Obligations.PixelUnpackResult := by
  unfold Obligations.PixelUnpackResult
  intro order pix s
  have word : encode (.rgb565PixelUnpack order pix) = wordOf 8 (orderCode order) pix.toNat :=
    encode_eq_wordOf_of_toNat (orderCode_eq order).symm (toNat_pixelLane pix)
  refine answers_of_drives (fun _ => rfl) word ?_ s
  rw [resultTriple_toNat, pixelUnpack_r5_toNat, pixelUnpack_g6_toNat, pixelUnpack_b5_toNat]

/-! ### Packing (R73) -/

/-- Three fields side by side do not overlap: their sum is their bitwise OR. -/
theorem packedSum_eq_or (high : Nat) {mid low : Nat} (hmid : mid < 64) (hlow : low < 32) :
    high * 2048 + mid * 32 + low = high <<< 11 ||| mid <<< 5 ||| low := by
  have lower : mid <<< 5 ||| low = mid <<< 5 + low := (Nat.shiftLeft_add_eq_or_of_lt hlow mid).symm
  have hlower : mid <<< 5 + low < 2 ^ 11 := by
    rw [Nat.shiftLeft_eq]
    omega
  rw [Nat.or_assoc, lower, ← Nat.shiftLeft_add_eq_or_of_lt hlower, Nat.shiftLeft_eq, Nat.shiftLeft_eq, Nat.add_assoc]

theorem pixelPack_toNat (order : ComponentOrder) (t : FieldTriple) :
    (pixelPack order t).toNat = (if orderCode order = 0 then t.r5.toNat else t.b5.toNat) * 2048 + t.g6.toNat * 32 +
      (if orderCode order = 0 then t.b5.toNat else t.r5.toNat) := by
  have concat (high low : Channel5) (mid : Channel6) :
      (high ++ mid ++ low).toNat = high.toNat * 2048 + mid.toNat * 32 + low.toNat := by
    rw [toNat_concat, toNat_concat]
    omega
  cases order with
  | rgb565 => exact concat t.r5 t.b5 t.g6
  | bgr565 => exact concat t.b5 t.r5 t.g6

/-- A word of U9 with a must-be-zero bit of `A` set fails step 5 of the procedure (R42, R43). -/
theorem reservedReasons_pack_of_spare {m a : Nat} (hm : m < 2) (ha : a < 2 ^ 24)
    (h : bitsOf a 23 21 ≠ 0 ∨ bitsOf a 15 14 ≠ 0 ∨ bitsOf a 7 5 ≠ 0) : (wordOf 9 m a).reservedReasons ≠ [] := by
  have spare : spareBitSet 9#4 (BitVec.ofNat 24 a) = true := by
    rw [spareBitSet_iff, BitVec.toNat_ofNat a, Nat.mod_eq_of_lt ha]
    exact .inr (.inr (.inr (.inr ⟨rfl, h⟩)))
  rw [wordOf_eq_assemble hm ha, reserved_iff_numbers, OpWord.opField_assemble, OpWord.operandField_assemble]
  exact .inr (.inr (.inr spare))

/-- A byte of `A` with a value above its field has a bit set outside the field's lane (R42). -/
theorem spare_ne_zero_of_lane_above {r g b : Nat} (hr : r < 256) (hg : g < 256) (hb : b < 256)
    (h : ¬ (r < 32 ∧ g < 64 ∧ b < 32)) :
    let a := r * 2 ^ 16 + g * 2 ^ 8 + b
    bitsOf a 23 21 ≠ 0 ∨ bitsOf a 15 14 ≠ 0 ∨ bitsOf a 7 5 ≠ 0 := by
  simp only [bitsOf]
  omega

/-- Settles O17: the packed pixel as a number (`pixelPack_toNat`), whose fields do not overlap (`packedSum_eq_or`), and
the must-be-zero bits above the lanes (`spare_ne_zero_of_lane_above`). -/
theorem pixelPackResult : Obligations.PixelPackResult := by
  unfold Obligations.PixelPackResult
  refine ⟨fun order r5 g6 b5 s => ?_, fun order r g b s h => ?_⟩
  · have word : encode (.rgb565PixelPack order r5 g6 b5) =
        wordOf 9 (orderCode order) (r5.toNat * 2 ^ 16 + g6.toNat * 2 ^ 8 + b5.toNat) :=
      encode_eq_wordOf_of_toNat (orderCode_eq order).symm (resultTriple_toNat ⟨r5, g6, b5⟩)
    have packed := pixelPack_toNat order ⟨r5, g6, b5⟩
    have bound := (pixelPack order ⟨r5, g6, b5⟩).isLt
    have hlow : (if orderCode order = 0 then b5.toNat else r5.toNat) < 32 := by
      split
      · exact b5.isLt
      · exact r5.isLt
    obtain ⟨answer, onWord⟩ :=
      answers_of_drives (fun _ => rfl) word ((resultLow_toNat _ (by decide)).trans packed) s
    rw [packed] at bound
    exact ⟨answer, onWord, Nat.le_of_lt_succ bound, packedSum_eq_or _ g6.isLt hlow⟩
  · have hm : orderCode order < 2 := by
      rw [orderCode_eq]
      exact order.toBit.isLt
    have ha : r.toNat * 2 ^ 16 + g.toNat * 2 ^ 8 + b.toNat < 2 ^ 24 := by omega
    have spare := spare_ne_zero_of_lane_above r.isLt g.isLt b.isLt h
    exact step_of_reserved (decode_eq_none_of_reserved (reservedReasons_pack_of_spare hm ha spare))

end Sys2Proof.Machine

/-! # The byte swap

Proof of the family spec/43_endianness_swap.md: O18 (rule R80). -/

namespace Sys2Proof.Machine

/-- U10 reads big-endian the bytes of its operand laid out little-endian (R24, R80). -/
theorem endiannessSwap_eq_valueBe (d : BitVec 16) : endiannessSwap d = valueBe (bytesLe d) := rfl

theorem endiannessSwap_toNat (d : BitVec 16) :
    (endiannessSwap d).toNat = d.toNat % 256 * 256 + d.toNat / 256 := by
  rw [endiannessSwap_eq_valueBe, valueBe_toNat, bytesLe_b0_toNat, bytesLe_b1_toNat]
  simp only [bitsOf]
  omega

/-- Exchanging the low byte with the rest keeps a number exactly if the two are equal. -/
theorem swappedBytes_eq_iff (n : Nat) : n % 256 * 256 + n / 256 = n ↔ n % 256 = n / 256 := by
  omega

/-- Settles O18: the swapped value as a number (`endiannessSwap_toNat`), on the low lane, and its fixed points
(`swappedBytes_eq_iff`). -/
theorem endiannessSwapResult : Obligations.EndiannessSwapResult := by
  unfold Obligations.EndiannessSwapResult
  intro d s
  have word : encode (.endiannessSwap16b d) = wordOf 10 0 d.toNat :=
    encode_eq_wordOf_of_lane rfl rfl rfl
  obtain ⟨answer, onWord⟩ :=
    answers_of_drives (fun _ => rfl) word ((resultLow_toNat _ (by decide)).trans (endiannessSwap_toNat d)) s
  exact ⟨answer, onWord, swappedBytes_eq_iff d.toNat⟩

end Sys2Proof.Machine

/-! # The sRGB channel conversions, decode and encode

Proofs of the family spec/44_composite_operations.md: O42 (rules R85 to R88) and O43 (rules R89 and R90). A line that
writes an operation builds its word (`Line.word_of_form`) and binds its value (`evalLine_of_form`), so the names a program
binds are found line by line (`Runs.cons`). The order of the conversions follows from the scalers' and the tables' own. -/

namespace Sys2Proof.Machine

/-! ### The word of a line (R46, R47) -/

theorem row_lineForm (i : Instr) : (lineForm i).1.row = i.opCode.toNat := by
  cases i with
  | rgb565UnpackChannel5 sel pix => cases sel <;> rfl
  | rgb565PixelUnpack order pix => cases order <;> rfl
  | rgb565PixelPack order r5 g6 b5 => cases order <;> rfl
  | _ => rfl

theorem modeOf_lineForm (i : Instr) : modeOf (lineForm i).1 (lineForm i).2.1 = some i.modeBit.toNat := by
  cases i with
  | rgb565UnpackChannel5 sel pix => cases sel <;> rfl
  | rgb565PixelUnpack order pix => cases order <;> rfl
  | rgb565PixelPack order r5 g6 b5 => cases order <;> rfl
  | _ => rfl

theorem lineForm_pixelUnpack (order : ComponentOrder) (pix : Pixel) :
    lineForm (.rgb565PixelUnpack order pix) = (.rgb565PixelUnpack, orderMode order, [pix.toNat]) := by
  cases order <;> rfl

theorem lineForm_pixelPack (order : ComponentOrder) (t : FieldTriple) :
    lineForm (.rgb565PixelPack order t.r5 t.g6 t.b5) =
      (.rgb565PixelPack, orderMode order, [t.r5.toNat, t.g6.toNat, t.b5.toNat]) := by
  cases order <;> rfl

/-- Every operand fits its port, being as wide (R36). -/
theorem lineForm_fits (i : Instr) :
    List.Forall₂ (fun n lane => n < 2 ^ lane.1) (lineForm i).2.2 (lineForm i).1.lanes := by
  cases i with
  | rgb565UnpackChannel5 sel pix => cases sel <;> exact .cons pix.isLt .nil
  | rgb565PixelUnpack order pix => cases order <;> exact .cons pix.isLt .nil
  | rgb565PixelPack order r5 g6 b5 =>
    cases order <;> exact .cons r5.isLt (.cons g6.isLt (.cons b5.isLt .nil))
  | _ => exact .cons (BitVec.isLt _) .nil

/-- The operands in the lanes of R42 are the operation's `A`. -/
theorem laneSum_lineForm (i : Instr) : laneSum (lineForm i).2.2 (lineForm i).1.lanes = i.operandBits.toNat := by
  have lane {k n : Nat} (v : BitVec n) : v.toNat * 2 ^ 0 + 0 = (0#k ++ v).toNat := by simp
  have lanes (t : FieldTriple) : t.r5.toNat * 2 ^ 16 + (t.g6.toNat * 2 ^ 8 + (t.b5.toNat * 2 ^ 0 + 0)) =
      (resultTriple t).toNat := by
    rw [resultTriple_toNat]
    omega
  cases i with
  | rgb565UnpackChannel5 sel pix => cases sel <;> exact lane pix
  | rgb565PixelUnpack order pix => cases order <;> exact lane pix
  | rgb565PixelPack order r5 g6 b5 => cases order <;> exact lanes ⟨r5, g6, b5⟩
  | _ => exact lane _

/-- A line in the form of an operation, whose arguments stand for its operands, builds the operation's word (R47). -/
theorem Line.word_of_form {env : Env} {l : Line} {i : Instr} {ns : List Nat}
    (form : lineForm i = (l.mnemonic, l.mode, ns)) (numbers : l.numbers env ns) : l.word env = .ok (encode i) := by
  have row := row_lineForm i
  have mode := modeOf_lineForm i
  have fits := lineForm_fits i
  have sum := laneSum_lineForm i
  rw [form] at row mode fits sum
  have operand : operandOf env l.mnemonic.lanes l.args = .ok i.operandBits.toNat :=
    operandOf_eq_ok.mpr ⟨ns, numbers, fits, sum.symm⟩
  simp only [Line.word, mode, operand, encode_eq_wordOf, wordOf, row]

/-! ### The value of a line (R47) -/

/-- The value that a line which writes the operation binds (R47). -/
def valueOf : Instr → Value
  | .rgb565UnpackChannel5 sel pix => .scalar (unpackChannel5 sel pix).toNat
  | .rgb565UnpackChannel6 pix => .scalar (unpackChannel6 pix).toNat
  | .channel5ToChannel8Linear c5 => .scalar (widen5 c5).toNat
  | .channel6ToChannel8Linear c6 => .scalar (widen6 c6).toNat
  | .channel8ToChannel5Linear c8 => .scalar (narrow5 c8).toNat
  | .channel8ToChannel6Linear c8 => .scalar (narrow6 c8).toNat
  | .srgbGammaExpandLut s8 => .scalar (gammaExpand s8).toNat
  | .srgbGammaCompressLut l8 => .scalar (gammaCompress l8).toNat
  | .rgb565PixelUnpack order pix => .triple (pixelUnpack order pix)
  | .rgb565PixelPack order r5 g6 b5 => .scalar (pixelPack order { r5 := r5, g6 := g6, b5 := b5 }).toNat
  | .endiannessSwap16b d => .scalar (endiannessSwap d).toNat

/-- What an operation drives `y` with, in every state, is read as its value (R42, R47). -/
theorem exec_drives_value (i : Instr) :
    ∃ v, (∀ s, exec i s = .next (s.driveY v)) ∧ boundValue (lineForm i).1 v = valueOf i := by
  have low {n : Nat} (v : BitVec n) (h : n ≤ 24) : Value.scalar (resultLow v).toNat = .scalar v.toNat :=
    congrArg Value.scalar (resultLow_toNat v h)
  cases i with
  | rgb565UnpackChannel5 sel pix => exact ⟨_, fun _ => rfl, by cases sel <;> exact low _ (by decide)⟩
  | rgb565PixelUnpack order pix =>
    refine ⟨_, fun _ => rfl, ?_⟩
    rw [lineForm_pixelUnpack]
    exact congrArg Value.triple (tripleOfResult_resultTriple _)
  | rgb565PixelPack order r5 g6 b5 => exact ⟨_, fun _ => rfl, by cases order <;> exact low _ (by decide)⟩
  | _ => exact ⟨_, fun _ => rfl, low _ (by decide)⟩

/-- A line in the form of an operation, with a free name, binds the operation's value to that name (R46, R47). -/
theorem evalLine_of_form {h : HostState} {l : Line} {i : Instr} {ns : List Nat}
    (form : lineForm i = (l.mnemonic, l.mode, ns)) (numbers : l.numbers h.env ns)
    (free : lookupName h.env l.name = none) :
    ∃ t, evalLine h l = .ok { env := h.env ++ [(l.name, valueOf i)], block := t } := by
  obtain ⟨v, drives, value⟩ := exec_drives_value i
  have evaluated : step (h.block.present (encode i)) = .next ((h.block.present (encode i)).driveY v) :=
    (step_of_decode (s := h.block.present (encode i)) (decode_encode i)).trans (drives _)
  rw [form] at value
  rw [← value]
  exact ⟨_, evalLine_ok free (Line.word_of_form form numbers) evaluated⟩

/-! ### The names a program binds (R46) -/

/-- Run on a block in any state, the lines succeed and take the bound names from `env` to `env'`. -/
def Runs (env : Env) (ls : List Line) (env' : Env) : Prop :=
  ∀ b : State, ∃ t, runLines { env := env, block := b } ls = .ok { env := env', block := t }

theorem Runs.nil {env : Env} : Runs env [] env := fun b => ⟨b, rfl⟩

theorem Runs.cons {env env' : Env} {l : Line} {ls : List Line} {ns : List Nat} (i : Instr)
    (form : lineForm i = (l.mnemonic, l.mode, ns)) (numbers : l.numbers env ns) (free : lookupName env l.name = none)
    (rest : Runs (env ++ [(l.name, valueOf i)]) ls env') : Runs env (l :: ls) env' := by
  intro b
  obtain ⟨t, line⟩ := evalLine_of_form (h := { env := env, block := b }) form numbers free
  simpa only [runLines, line] using rest t

/-- One of the names that a program binds, beside a fact that does not depend on the run. -/
theorem Runs.exists_lookup {ls : List Line} {env : Env} {x : String} {v : Value} {P : Prop} (runs : Runs [] ls env)
    (look : lookupName env x = some v) (fact : P) (b : State) :
    ∃ h, runLines { env := [], block := b } ls = .ok h ∧ lookupName h.env x = some v ∧ P := by
  obtain ⟨t, run⟩ := runs b
  exact ⟨_, run, look, fact⟩

/-! ### The lines of the sRGB channel conversions (R85 to R88) -/

theorem runs_linesExpand5Srgb (c : Channel5) : Runs [] (linesExpand5Srgb c)
    [("t", .scalar (widen5 c).toNat), ("s", .scalar (expand5Srgb c).toNat)] :=
  .cons (.channel5ToChannel8Linear c) rfl rfl rfl (.cons (.srgbGammaCompressLut (widen5 c)) rfl rfl rfl .nil)

theorem runs_linesExpand6Srgb (c : Channel6) : Runs [] (linesExpand6Srgb c)
    [("t", .scalar (widen6 c).toNat), ("s", .scalar (expand6Srgb c).toNat)] :=
  .cons (.channel6ToChannel8Linear c) rfl rfl rfl (.cons (.srgbGammaCompressLut (widen6 c)) rfl rfl rfl .nil)

theorem runs_linesContract5Srgb (s : Channel8s) : Runs [] (linesContract5Srgb s)
    [("l", .scalar (gammaExpand s).toNat), ("c", .scalar (contract5Srgb s).toNat)] :=
  .cons (.srgbGammaExpandLut s) rfl rfl rfl (.cons (.channel8ToChannel5Linear (gammaExpand s)) rfl rfl rfl .nil)

theorem runs_linesContract6Srgb (s : Channel8s) : Runs [] (linesContract6Srgb s)
    [("l", .scalar (gammaExpand s).toNat), ("c", .scalar (contract6Srgb s).toNat)] :=
  .cons (.srgbGammaExpandLut s) rfl rfl rfl (.cons (.channel8ToChannel6Linear (gammaExpand s)) rfl rfl rfl .nil)

/-! ### The order of the sRGB channel conversions (R85 to R88) -/

theorem Space.memRead_mono (sp : Space) {a b : BitVec 8} (h : a ≤ b) : memRead sp a ≤ memRead sp b := by
  rw [BitVec.le_def, memRead_toNat, memRead_toNat]
  exact sp.contents_sortedLE.getElem_le_getElem_of_le h

/-- No code stands in `GCMP` more than three times. -/
theorem gcmpTable_lt_third_next : ∀ e ∈ gcmpTable.zip (gcmpTable.drop 3), e.1 < e.2 := by
  decide +kernel

/-- So `GCMP` keeps linear codes apart that differ by three or more. -/
theorem gammaCompress_lt_of_add_three_le {a b : Channel8} (h : a.toNat + 3 ≤ b.toNat) :
    gammaCompress a < gammaCompress b := by
  have hb := b.isLt
  have next : (a + 3#8).toNat = a.toNat + 3 := by
    rw [BitVec.toNat_add, BitVec.toNat_ofNat]
    omega
  have apart : gammaCompress a < gammaCompress (a + 3#8) := by
    refine gcmpTable_lt_third_next ((memRead .gcmp a).toNat, (memRead .gcmp (a + 3#8)).toNat)
      (List.mem_iff_getElem?.mpr ⟨a.toNat, ?_⟩)
    rw [List.getElem?_zip_eq_some, List.getElem?_drop, Nat.add_comm 3, ← next]
    exact ⟨Space.gcmp.contents_getElem?_toNat a, Space.gcmp.contents_getElem?_toNat (a + 3#8)⟩
  refine Nat.lt_of_lt_of_le apart (Space.gcmp.memRead_mono (a := a + 3#8) ?_)
  rwa [BitVec.le_def, next]

/-- One step of the input moves the scaled value by at least the whole part of the ratio of the scales. -/
theorem scale_add_le_of_lt {q p c d k : Nat} (hq : 0 < q) (hk : k * q ≤ p) (h : c < d) :
    scale Config.roundMode q p c + k ≤ scale Config.roundMode q p d := by
  have step : c * p + k * q ≤ d * p :=
    calc c * p + k * q ≤ c * p + p := Nat.add_le_add_left hk _
      _ = (c + 1) * p := (Nat.succ_mul c p).symm
      _ ≤ d * p := Nat.mul_le_mul_right p h
  calc (2 * (c * p) + q) / (2 * q) + k = (2 * (c * p) + q + k * (2 * q)) / (2 * q) :=
        (Nat.add_mul_div_right _ _ (by omega)).symm
    _ = (2 * (c * p + k * q) + q) / (2 * q) := by congr 1; ring
    _ ≤ (2 * (d * p) + q) / (2 * q) := Nat.div_le_div_right (by omega)

theorem expand5Srgb_strictMono {c d : Channel5} (h : c < d) : expand5Srgb c < expand5Srgb d := by
  refine gammaCompress_lt_of_add_three_le ?_
  rw [widen5_toNat, widen5_toNat]
  exact scale_add_le_of_lt (by decide) (by decide) h

theorem expand6Srgb_strictMono {c d : Channel6} (h : c < d) : expand6Srgb c < expand6Srgb d := by
  refine gammaCompress_lt_of_add_three_le ?_
  rw [widen6_toNat, widen6_toNat]
  exact scale_add_le_of_lt (by decide) (by decide) h

theorem contract5Srgb_mono {s u : Channel8s} (h : s ≤ u) : contract5Srgb s ≤ contract5Srgb u := by
  have linear : (gammaExpand s).toNat ≤ (gammaExpand u).toNat := Space.gexp.memRead_mono h
  change (narrow5 (gammaExpand s)).toNat ≤ (narrow5 (gammaExpand u)).toNat
  rw [narrow5_toNat, narrow5_toNat]
  exact scale_mono linear

theorem contract6Srgb_mono {s u : Channel8s} (h : s ≤ u) : contract6Srgb s ≤ contract6Srgb u := by
  have linear : (gammaExpand s).toNat ≤ (gammaExpand u).toNat := Space.gexp.memRead_mono h
  change (narrow6 (gammaExpand s)).toNat ≤ (narrow6 (gammaExpand u)).toNat
  rw [narrow6_toNat, narrow6_toNat]
  exact scale_mono linear

/-- Settles O42: the names the lines bind, and the order of the conversions; the inputs up to 36 and up to 25 give 0
since these two do. -/
theorem srgbChannelExpansions : Obligations.SrgbChannelExpansions := by
  unfold Obligations.SrgbChannelExpansions
  refine ⟨fun b => ⟨fun c => ?_, fun c => ?_, fun s => ?_, fun s => ?_⟩, rfl, rfl, rfl, rfl, rfl, rfl,
    fun c d => expand5Srgb_strictMono, fun c d => expand6Srgb_strictMono,
    fun s u h => ⟨contract5Srgb_mono h, contract6Srgb_mono h⟩, fun s => ⟨fun h => ?_, fun h => ?_⟩⟩
  · exact (runs_linesExpand5Srgb c).exists_lookup rfl rfl b
  · exact (runs_linesExpand6Srgb c).exists_lookup rfl rfl b
  · exact (runs_linesContract5Srgb s).exists_lookup rfl rfl b
  · exact (runs_linesContract6Srgb s).exists_lookup rfl rfl b
  · exact BitVec.le_zero_iff.mp (contract5Srgb_mono h)
  · exact BitVec.le_zero_iff.mp (contract6Srgb_mono h)

/-! ### Byte pairs, decode and encode (R89, R90) -/

/-- A pair is read in its endianness: U10 turns its bus value into the big-endian reading (R24, R82). -/
theorem pixelOfBytes_eq (e : Endianness) (p : BytePair) :
    pixelOfBytes e p = if e.toBit = 0#1 then valueLe p else valueBe p := by
  cases e with
  | little => rfl
  | big =>
    change endiannessSwap (valueLe p) = valueBe p
    rw [endiannessSwap_eq_valueBe, bytesLe_valueLe]

/-- A value is laid out in the pair's endianness: U10 puts its big-endian bytes on the bus (R24, R82). -/
theorem bytesOfPixel_eq (e : Endianness) (w : Pixel) :
    bytesOfPixel e w = if e.toBit = 0#1 then bytesLe w else bytesBe w := by
  cases e with
  | little => rfl
  | big => exact bytesLe_valueLe (bytesBe w)

theorem runs_linesDecode_little (p : BytePair) (order : ComponentOrder) :
    Runs [] (linesDecode (busValue p) order .little) [("t", .triple (pixelDecode p order .little))] :=
  .cons (.rgb565PixelUnpack order (busValue p)) (lineForm_pixelUnpack _ _) rfl rfl .nil

theorem runs_linesDecode_big (p : BytePair) (order : ComponentOrder) :
    Runs [] (linesDecode (busValue p) order .big)
      [("w", .scalar (endiannessSwap (busValue p)).toNat), ("t", .triple (pixelDecode p order .big))] :=
  .cons (.endiannessSwap16b (busValue p)) rfl rfl rfl
    (.cons (.rgb565PixelUnpack order (endiannessSwap (busValue p))) (lineForm_pixelUnpack _ _) rfl rfl .nil)

theorem runs_linesEncode_little (t : FieldTriple) (order : ComponentOrder) :
    Runs [] (linesEncode t order .little) [("v", .scalar (pixelPack order t).toNat)] :=
  .cons (.rgb565PixelPack order t.r5 t.g6 t.b5) (lineForm_pixelPack _ _) rfl rfl .nil

theorem runs_linesEncode_big (t : FieldTriple) (order : ComponentOrder) :
    Runs [] (linesEncode t order .big)
      [("w", .scalar (pixelPack order t).toNat), ("v", .scalar (endiannessSwap (pixelPack order t)).toNat)] :=
  .cons (.rgb565PixelPack order t.r5 t.g6 t.b5) (lineForm_pixelPack _ _) rfl rfl
    (.cons (.endiannessSwap16b (pixelPack order t)) rfl rfl rfl .nil)

/-- Settles O43: the names the lines bind, by endianness, and the two readings of a pair (`pixelOfBytes_eq`,
`bytesOfPixel_eq`). -/
theorem decodeEncodeExpansions : Obligations.DecodeEncodeExpansions := by
  unfold Obligations.DecodeEncodeExpansions
  refine fun b order e => ⟨fun p => ?_, fun t => ?_⟩
  · have value := congrArg (pixelUnpack order) (pixelOfBytes_eq e p)
    cases e with
    | little => exact (runs_linesDecode_little p order).exists_lookup rfl value b
    | big => exact (runs_linesDecode_big p order).exists_lookup rfl value b
  · have bytes := bytesOfPixel_eq e (pixelPack order t)
    have bus (v : BitVec 16) : busBytes (BitVec.ofNat 16 v.toNat) = busBytes v := by
      rw [BitVec.ofNat_toNat, BitVec.setWidth_eq]
    cases e with
    | little =>
      obtain ⟨h, run, bound, serial⟩ := (runs_linesEncode_little t order).exists_lookup (x := "v") rfl bytes b
      exact ⟨h, _, run, bound, bus _, serial⟩
    | big =>
      obtain ⟨h, run, bound, serial⟩ := (runs_linesEncode_big t order).exists_lookup (x := "v") rfl bytes b
      exact ⟨h, _, run, bound, bus _, serial⟩

end Sys2Proof.Machine

/-! # Round trips and endianness symmetry on byte pairs

Proofs of the family spec/45_properties.md: O50 (rule R100) and O51 (rule R102). Both follow the two halves of `decode`
and `encode`: reading and laying out a byte pair in one endianness invert each other, and so do U8 and U9 for one order. -/

namespace Sys2Proof.Machine

/-! ### U8 and U9 invert each other (R75) -/

/-- The three fields of a pixel, side by side, are the pixel. -/
theorem concat_of_fields (pix : Pixel) :
    pix.extractLsb' 11 5 ++ pix.extractLsb' 5 6 ++ pix.extractLsb' 0 5 = pix := by
  have high : pix.extractLsb' 11 5 ++ pix.extractLsb' 5 6 = pix.extractLsb' 5 11 :=
    BitVec.extractLsb'_append_extractLsb'_eq_extractLsb' rfl
  rw [high]
  exact (BitVec.extractLsb'_append_extractLsb'_eq_extractLsb' rfl).trans BitVec.extractLsb'_eq_self

/-- Three fields side by side are read back at bits 11, 5 and 0. -/
theorem fields_of_concat (high low : Channel5) (mid : Channel6) :
    (high ++ mid ++ low).extractLsb' 11 5 = high ∧ (high ++ mid ++ low).extractLsb' 5 6 = mid ∧
      (high ++ mid ++ low).extractLsb' 0 5 = low := by
  refine ⟨?_, ?_, BitVec.extractLsb'_append_eq_right⟩
  · exact (BitVec.extractLsb'_append_eq_of_le (by decide)).trans BitVec.extractLsb'_append_eq_left
  · exact (BitVec.extractLsb'_append_eq_of_le (by decide)).trans BitVec.extractLsb'_append_eq_right

@[simp] theorem pixelPack_pixelUnpack (order : ComponentOrder) (pix : Pixel) :
    pixelPack order (pixelUnpack order pix) = pix := by
  cases order with
  | rgb565 => exact concat_of_fields pix
  | bgr565 => exact concat_of_fields pix

@[simp] theorem pixelUnpack_pixelPack (order : ComponentOrder) (t : FieldTriple) :
    pixelUnpack order (pixelPack order t) = t := by
  obtain ⟨r5, g6, b5⟩ := t
  cases order with
  | rgb565 =>
    obtain ⟨high, mid, low⟩ := fields_of_concat r5 b5 g6
    exact congr (congrArg₂ FieldTriple.mk high mid) low
  | bgr565 =>
    obtain ⟨high, mid, low⟩ := fields_of_concat b5 r5 g6
    exact congr (congrArg₂ FieldTriple.mk low mid) high

/-! ### The byte handling of decode and encode (R24, R89, R90) -/

@[simp] theorem valueLe_bytesLe (w : BitVec 16) : valueLe (bytesLe w) = w :=
  (BitVec.extractLsb'_append_extractLsb'_eq_extractLsb' rfl).trans BitVec.extractLsb'_eq_self

@[simp] theorem valueBe_bytesBe (w : BitVec 16) : valueBe (bytesBe w) = w := by
  rw [valueBe_eq_valueLe, bytesBe_eq_bytesLe, valueLe_bytesLe]

@[simp] theorem bytesOfPixel_pixelOfBytes (e : Endianness) (p : BytePair) :
    bytesOfPixel e (pixelOfBytes e p) = p := by
  rw [bytesOfPixel_eq, pixelOfBytes_eq]
  split
  · exact bytesLe_valueLe p
  · exact bytesBe_valueBe p

@[simp] theorem pixelOfBytes_bytesOfPixel (e : Endianness) (w : Pixel) :
    pixelOfBytes e (bytesOfPixel e w) = w := by
  rw [pixelOfBytes_eq, bytesOfPixel_eq]
  split
  · exact valueLe_bytesLe w
  · exact valueBe_bytesBe w

/-- Reading a pair big-endian is reading its reverse little-endian (R82). -/
theorem pixelOfBytes_big_eq_little (p : BytePair) :
    pixelOfBytes .big p = pixelOfBytes .little { b0 := p.b1, b1 := p.b0 } :=
  (pixelOfBytes_eq .big p).trans (valueBe_eq_valueLe p)

/-- The big-endian bytes of a value are its little-endian bytes reversed (R82). -/
theorem bytesOfPixel_big_eq_little (w : Pixel) :
    bytesOfPixel .big w = { b0 := (bytesOfPixel .little w).b1, b1 := (bytesOfPixel .little w).b0 } :=
  (bytesOfPixel_eq .big w).trans (bytesBe_eq_bytesLe w)

/-! ### The laws of decode and encode (R100, R102) -/

theorem pixelEncode_pixelDecode (p : BytePair) (order : ComponentOrder) (e : Endianness) :
    pixelEncode (pixelDecode p order e) order e = p := by
  rw [pixelEncode, pixelDecode, pixelPack_pixelUnpack, bytesOfPixel_pixelOfBytes]

theorem pixelDecode_pixelEncode (t : FieldTriple) (order : ComponentOrder) (e : Endianness) :
    pixelDecode (pixelEncode t order e) order e = t := by
  rw [pixelDecode, pixelEncode, pixelOfBytes_bytesOfPixel, pixelUnpack_pixelPack]

/-- Settles O50: the byte handling cancels between the two units, and the units between the two byte handlings. -/
theorem roundTripOnBytePairs : Obligations.RoundTripOnBytePairs := by
  unfold Obligations.RoundTripOnBytePairs
  exact fun order e => ⟨fun p => pixelEncode_pixelDecode p order e, fun t => pixelDecode_pixelEncode t order e⟩

/-- Settles O51: the two endiannesses differ by a reversal of the pair, before U8 (`pixelOfBytes_big_eq_little`) and
after U9 (`bytesOfPixel_big_eq_little`). -/
theorem endiannessSymmetry : Obligations.EndiannessSymmetry := by
  unfold Obligations.EndiannessSymmetry
  refine fun order => ⟨fun b0 b1 => ?_, fun t => ?_⟩
  · exact congrArg (pixelUnpack order) (pixelOfBytes_big_eq_little { b0 := b1, b1 := b0 })
  · have reversed := bytesOfPixel_big_eq_little (pixelPack order t)
    exact ⟨congrArg BytePair.b0 reversed, congrArg BytePair.b1 reversed⟩

end Sys2Proof.Machine

/-! # The outcomes of a step

Proof of the family spec/60_exceptions.md: O22 (rule R122). -/

namespace Sys2Proof.Machine

theorem exists_step_of_admits {s : State} (h : s.Admits) : ∃ t, step s = .next t := by
  obtain ⟨i, decoded⟩ := Option.isSome_iff_exists.mp h
  obtain ⟨v, drives⟩ := exec_drives i
  exact ⟨s.driveY v, (step_of_decode decoded).trans (drives s)⟩

theorem step_of_not_admits {s : State} (h : ¬ s.Admits) : step s = .refused .reservedOperationWord :=
  step_of_reserved (Option.not_isSome_iff_eq_none.mp h)

/-- Settles O22: a step is its operation's execution, which drives the output port, and there is no operation exactly
when the word is reserved. -/
theorem admittedWordsAreEvaluated : Obligations.AdmittedWordsAreEvaluated := by
  unfold Obligations.AdmittedWordsAreEvaluated
  exact fun s => ⟨exists_step_of_admits, step_of_not_admits⟩

end Sys2Proof.Machine

/-! # The absence of hazards

Proof of the family spec/70_reset_and_hazards.md: O21 (rule R145). -/

namespace Sys2Proof.Machine

/-- What a step answers depends on the word on the input port alone (R40): the old output port, which is all that an
earlier evaluation leaves behind, is not read. -/
theorem step_eq_of_opw_eq {s t : State} (sameWord : s.opw = t.opw) : step s = step t := by
  cases decoded : decode s.opw with
  | none => rw [step_of_reserved decoded, step_of_reserved (sameWord ▸ decoded)]
  | some i =>
    obtain ⟨v, drives⟩ := exec_drives i
    have sameNext : s.driveY v = t.driveY v := State.eq_of_ports sameWord rfl
    rw [step_of_decode decoded, step_of_decode (sameWord ▸ decoded), drives, drives, sameNext]

/-- Settles O21: a later evaluation on `w` reads the same word with or without the earlier one, and after a step the
input port still holds `v`, so the second step is the first one again. -/
theorem evaluationsDoNotInterfere : Obligations.EvaluationsDoNotInterfere := by
  unfold Obligations.EvaluationsDoNotInterfere
  intro v w s t evaluated
  obtain ⟨_, _, _, wordKept⟩ := step_next evaluated
  exact ⟨step_eq_of_opw_eq rfl, (step_eq_of_opw_eq wordKept).trans evaluated⟩

end Sys2Proof.Machine

/-! # Decoding inverts encoding, and the count of the admitted words

O1, O2, O5 and O6 (rules R40 to R43). The fields of an admitted word are those of the operation it decodes to, so
`encode` and `decode` are inverse and the admitted words number as many as the operations. -/

namespace Sys2Proof

open Sys2Proof.Laws Sys2Proof.Machine

/-- Settles O1: an operation's word selects a row of the map, so it fails no check, and its lanes hold the operands. -/
theorem decodeOfEncode : Obligations.DecodeOfEncode := by
  unfold Obligations.DecodeOfEncode
  exact decode_encode

/-! ### The fields of an admitted word -/

theorem modeBit_of_selectUnit {op : BitVec 4} {m : BitVec 1} {a : Operand} {i : Instr}
    (unit : selectUnit op m a = some i) (mode : ¬ (modeMustBeZero op = true ∧ m = 1#1)) : i.modeBit = m := by
  have modeless (h : modeMustBeZero op = true) : 0#1 = m := by
    rcases BitVec.eq_zero_or_eq_one m with rfl | rfl
    · rfl
    · exact absurd ⟨h, rfl⟩ mode
  unfold selectUnit at unit
  split at unit <;> cases unit
  case h_1 => exact FieldSel.toBit_ofBit m
  case h_9 | h_10 => exact ComponentOrder.toBit_ofBit m
  all_goals
    refine modeless ?_
    rw [modeMustBeZero_iff]
    omega

/-- With the must-be-zero bits of `A` zero, the operand lanes are the whole of it (R42). -/
theorem operandBits_of_selectUnit {op : BitVec 4} {m : BitVec 1} {a : Operand} {i : Instr}
    (unit : selectUnit op m a = some i) (spare : spareBitSet op a = false) : i.operandBits = a := by
  have zeros := Bool.eq_false_iff.mp spare
  rw [ne_eq, spareBitSet_iff] at zeros
  simp only [bitsOf] at zeros
  have bound := a.isLt
  apply BitVec.eq_of_toNat_eq
  unfold selectUnit at unit
  split at unit <;> cases unit
  all_goals
    simp only [Instr.operandBits, toNat_concat, toNat_field, BitVec.toNat_ofNat]
    omega

theorem encode_of_decode {w : OpWord} {i : Instr} (h : decode w = some i) : encode i = w := by
  obtain ⟨checks, unit⟩ := decode_eq_some_iff.mp h
  obtain ⟨zero, -, mode, spare⟩ := reservedBy_eq_nil_iff.mp checks
  rw [encode, selectUnit_opCode unit, modeBit_of_selectUnit unit mode, operandBits_of_selectUnit unit spare, ← zero,
    OpWord.assemble_fields]

/-- Settles O2: each of the word's four fields is that of the operation. -/
theorem encodeOfDecode : Obligations.EncodeOfDecode := by
  unfold Obligations.EncodeOfDecode
  exact fun w i => encode_of_decode

/-! ### Counting -/

/-- The admitted words are the operations, by `decode` and `encode`. -/
def admittedWordsEquiv : { w : OpWord // (decode w).isSome = true } ≃ Instr where
  toFun w := (decode w.1).get w.2
  invFun i := ⟨encode i, by rw [decode_encode]; rfl⟩
  left_inv w := Subtype.ext (encode_of_decode (Option.some_get w.2).symm)
  right_inv i := by simp [decode_encode]

/-- The operands of an operation, unit by unit, a mode by its code (R38). -/
abbrev UnitOperands : Type :=
  (BitVec 1 × Pixel) ⊕ Pixel ⊕ Channel5 ⊕ Channel6 ⊕ Channel8 ⊕ Channel8 ⊕ Channel8s ⊕ Channel8 ⊕
    (BitVec 1 × Pixel) ⊕ (BitVec 1 × Channel5 × Channel6 × Channel5) ⊕ BitVec 16

/-- An operation is a unit with its operands. -/
def unitOperandsEquiv : UnitOperands ≃ Instr where
  toFun
    | .inl (m, pix) => .rgb565UnpackChannel5 (.ofBit m) pix
    | .inr (.inl pix) => .rgb565UnpackChannel6 pix
    | .inr (.inr (.inl c5)) => .channel5ToChannel8Linear c5
    | .inr (.inr (.inr (.inl c6))) => .channel6ToChannel8Linear c6
    | .inr (.inr (.inr (.inr (.inl c8)))) => .channel8ToChannel5Linear c8
    | .inr (.inr (.inr (.inr (.inr (.inl c8))))) => .channel8ToChannel6Linear c8
    | .inr (.inr (.inr (.inr (.inr (.inr (.inl s8)))))) => .srgbGammaExpandLut s8
    | .inr (.inr (.inr (.inr (.inr (.inr (.inr (.inl l8))))))) => .srgbGammaCompressLut l8
    | .inr (.inr (.inr (.inr (.inr (.inr (.inr (.inr (.inl (m, pix))))))))) => .rgb565PixelUnpack (.ofBit m) pix
    | .inr (.inr (.inr (.inr (.inr (.inr (.inr (.inr (.inr (.inl (m, r5, g6, b5)))))))))) =>
      .rgb565PixelPack (.ofBit m) r5 g6 b5
    | .inr (.inr (.inr (.inr (.inr (.inr (.inr (.inr (.inr (.inr d))))))))) => .endiannessSwap16b d
  invFun
    | .rgb565UnpackChannel5 sel pix => .inl (sel.toBit, pix)
    | .rgb565UnpackChannel6 pix => .inr (.inl pix)
    | .channel5ToChannel8Linear c5 => .inr (.inr (.inl c5))
    | .channel6ToChannel8Linear c6 => .inr (.inr (.inr (.inl c6)))
    | .channel8ToChannel5Linear c8 => .inr (.inr (.inr (.inr (.inl c8))))
    | .channel8ToChannel6Linear c8 => .inr (.inr (.inr (.inr (.inr (.inl c8)))))
    | .srgbGammaExpandLut s8 => .inr (.inr (.inr (.inr (.inr (.inr (.inl s8))))))
    | .srgbGammaCompressLut l8 => .inr (.inr (.inr (.inr (.inr (.inr (.inr (.inl l8)))))))
    | .rgb565PixelUnpack order pix => .inr (.inr (.inr (.inr (.inr (.inr (.inr (.inr (.inl (order.toBit, pix)))))))))
    | .rgb565PixelPack order r5 g6 b5 =>
      .inr (.inr (.inr (.inr (.inr (.inr (.inr (.inr (.inr (.inl (order.toBit, r5, g6, b5))))))))))
    | .endiannessSwap16b d => .inr (.inr (.inr (.inr (.inr (.inr (.inr (.inr (.inr (.inr d)))))))))
  left_inv x := by
    rcases x with x | x | x | x | x | x | x | x | x | x | x <;>
      simp only [FieldSel.toBit_ofBit, ComponentOrder.toBit_ofBit]
  right_inv i := by
    cases i <;> simp only [FieldSel.ofBit_toBit, ComponentOrder.ofBit_toBit]

theorem card_bitVec (n : Nat) : Nat.card (BitVec n) = 2 ^ n := by
  rw [Nat.card_congr BitVec.equivFin.toEquiv, Nat.card_fin]

theorem card_instr : Nat.card Instr = 525408 := by
  rw [← Nat.card_congr unitOperandsEquiv]
  simp only [Nat.card_sum, Nat.card_prod, card_bitVec]
  norm_num

/-- Settles O5: there are as many admitted words as operations. -/
theorem admittedWordCount : Obligations.AdmittedWordCount := by
  unfold Obligations.AdmittedWordCount
  rw [Nat.card_congr admittedWordsEquiv, card_instr]

/-- Settles O6: by evaluation of the decoder on the five words. -/
theorem writtenOutWordsDecode : Obligations.WrittenOutWordsDecode := by
  unfold Obligations.WrittenOutWordsDecode
  decide

end Sys2Proof

/-! # What every step keeps

O7, O19, O20, O23 and O24 (rules R40, R42, R142): a step is the decoded operation, and what it drives the output port
with depends on the word on the input port alone (`step_eq_of_opw_eq`). -/

namespace Sys2Proof.Machine

open Sys2Proof.Laws

/-- Settles O7: a step is `exec` of what the decoder answers. -/
theorem stepRunsDecoded : Obligations.StepRunsDecoded := by
  unfold Obligations.StepRunsDecoded
  exact ⟨fun _ _ => step_of_decode, fun _ => step_of_reserved⟩

/-! ### The wrapper's function and the settled output (R40, R142) -/

/-- The output of a step, from any state, is the wrapper's function of the word. -/
theorem wrapperY_of_step {s t : State} (h : step s = .next t) : wrapperY s.opw = some t.y := by
  have atReset : step (State.reset.present s.opw) = .next t := (step_eq_of_opw_eq rfl).trans h
  simp only [wrapperY, atReset]

/-- Settles O20: the old output port is not read, from the state after reset as from any other. -/
theorem stepDependsOnWordOnly : Obligations.StepDependsOnWordOnly := by
  unfold Obligations.StepDependsOnWordOnly
  exact fun s s' sameWord => ⟨step_eq_of_opw_eq sameWord, fun t => wrapperY_of_step⟩

theorem settled_of_step {s t : State} (h : step s = .next t) : t.Settled := by
  obtain ⟨_, _, _, wordKept⟩ := step_next h
  intro v hv
  rw [wordKept, wrapperY_of_step h] at hv
  exact Option.some.inj hv

/-- Settles O23: the new output is the wrapper's function of the word (`wrapperY_of_step`), which stays on the input
port. -/
theorem stepKeepsSettled : Obligations.StepKeepsSettled := by
  unfold Obligations.StepKeepsSettled
  intro s t h
  obtain ⟨_, _, _, wordKept⟩ := step_next h
  exact ⟨settled_of_step h, wordKept⟩

theorem step_reset : step State.reset = .next State.reset :=
  rfl

/-- Settles O24: a step from reset answers the state after reset, and every step leaves a settled output. -/
theorem resetIsSettled : Obligations.ResetIsSettled := by
  unfold Obligations.ResetIsSettled
  exact ⟨settled_of_step step_reset, rfl, step_reset⟩

/-! ### The bits outside the result lanes (R42) -/

theorem resultLow_and_not_lane {n : Nat} (v : BitVec n) :
    resultLow v &&& ~~~ resultLow (BitVec.allOnes n) = 0#24 := by
  ext j hj
  have outside : v.getLsbD j = true → j < n := BitVec.lt_of_getLsbD
  simpa [resultLow] using outside

theorem resultTriple_and_not_lanes (t : FieldTriple) : resultTriple t &&& ~~~ 0x1F3F1F#24 = 0#24 := by
  have lanes : ~~~ 0x1F3F1F#24 = BitVec.allOnes 3 ++ 0#5 ++ BitVec.allOnes 2 ++ 0#6 ++ BitVec.allOnes 3 ++ 0#5 := rfl
  rw [lanes, resultTriple, BitVec.and_append]
  simp only [BitVec.and_append, BitVec.and_zero, BitVec.zero_and]
  rfl

theorem exec_drives_in_lanes (i : Instr) :
    ∃ v, (∀ s, exec i s = .next (s.driveY v)) ∧ v &&& ~~~ resultLanes i = 0#24 := by
  cases i with
  | rgb565PixelUnpack order pix => exact ⟨_, fun _ => rfl, resultTriple_and_not_lanes _⟩
  | _ => exact ⟨_, fun _ => rfl, resultLow_and_not_lane _⟩

/-- Settles O19: an operation drives the output port within its lanes, and nothing else. -/
theorem unlistedResultBitsZero : Obligations.UnlistedResultBitsZero := by
  unfold Obligations.UnlistedResultBitsZero
  intro i s
  obtain ⟨v, drives, within⟩ := exec_drives_in_lanes i
  exact ⟨s.driveY v, drives s, rfl, within⟩

end Sys2Proof.Machine

/-! # The exact test, the order of the two tables, and the transfer functions

O28, O29 and O30 (rules R66, R67 and R61). The exact test characterises an entry because the entry is the rounded
function (`gcmpIsRoundedEnc`, `gexpIsRoundedDec`) and the test says what the function rounds to. -/

namespace Sys2Proof.Machine

/-! ### The exact test of an entry (R66) -/

theorem memRead_gcmp_eq_iff_gcmpTest {i : BitVec 8} (hi : 1 ≤ i.toNat) (k : ℕ) :
    (memRead .gcmp i).toNat = k ↔ gcmpTest i.toNat k := by
  rw [← quantise_enc_eq_iff_gcmpTest hi, ← gcmpIsRoundedEnc i, Nat.cast_inj]

theorem memRead_gexp_eq_iff_gexpTest {i : BitVec 8} (hi : 11 ≤ i.toNat) (k : ℕ) :
    (memRead .gexp i).toNat = k ↔ gexpTest i.toNat k := by
  rw [← quantise_dec_eq_iff_gexpTest hi, ← gexpIsRoundedDec i, Nat.cast_inj]

/-- Where `dec` is linear its rounded value is a quotient in lowest terms (R66). -/
theorem memRead_gexp_of_linear {i : BitVec 8} (hi : i.toNat ≤ 10) :
    (memRead .gexp i).toNat = (50 * i.toNat + 323) / 646 := by
  have rounded : (memRead .gexp i).toNat = roundHalfUp (255 * (25 * i.toNat)) (323 * 255) :=
    gexpTable_of_linear _ (Space.gexp.memRead_mem_zipIdx i) hi
  rw [rounded, roundHalfUp]
  omega

/-- Settles O28: the entries are the rounded functions, and the test says what the functions round to. -/
theorem tableEntriesPassExactTest : Obligations.TableEntriesPassExactTest := by
  unfold Obligations.TableEntriesPassExactTest
  exact ⟨rfl, fun i k hi => memRead_gcmp_eq_iff_gcmpTest hi k, fun i => memRead_gexp_of_linear,
    fun i k hi => memRead_gexp_eq_iff_gexpTest hi k⟩

/-! ### Order, fixed ends and failing inverses (R67) -/

theorem gammaExpand_le (i : BitVec 8) : (gammaExpand i).toNat ≤ i.toNat :=
  (gexpTable_bounds _ (Space.gexp.memRead_mem_zipIdx i)).1

theorem le_gammaCompress (i : BitVec 8) : i.toNat ≤ (gammaCompress i).toNat :=
  (gcmpTable_bounds _ (Space.gcmp.memRead_mem_zipIdx i)).1

theorem resultLow_mono {n : Nat} (hn : n ≤ 24) {v w : BitVec n} (h : v ≤ w) : resultLow v ≤ resultLow w := by
  rwa [BitVec.le_def, resultLow_toNat v hn, resultLow_toNat w hn, ← BitVec.le_def]

/-! ### Where the compositions of the tables fail (R67) -/

/-- What holds of every entry with its index holds of the function. -/
theorem TableAgrees.mem_zipIdx {α : Type} {n : Nat} {table : List α} {f : BitVec n → α} (agrees : TableAgrees table f)
    (i : BitVec n) : (f i, i.toNat) ∈ table.zipIdx :=
  List.mem_zipIdx_iff_getElem?.mpr (agrees.2 i)

/-- A function of a space's entries is listed by the images of the entries. -/
theorem tableAgrees_map_contents {table : List Nat} {g : Nat → Nat} {f : BitVec 8 → Nat} (sp : Space)
    (h : table = sp.contents.map g) (hf : ∀ a, f a = g (memRead sp a).toNat) : TableAgrees table f := by
  subst h
  refine ⟨by rw [List.length_map, sp.contents_length]; rfl, fun a => ?_⟩
  rw [List.getElem?_map, sp.contents_getElem?_toNat, Option.map_some, hf]

/-- The inputs that a function moves are counted in its table. -/
theorem TableAgrees.length_filter_ne {n : Nat} {table : List Nat} {f : BitVec n → BitVec n}
    (agrees : TableAgrees table fun i => (f i).toNat) :
    ((List.range (2 ^ n)).filter fun x => f (BitVec.ofNat n x) != BitVec.ofNat n x).length =
      (table.zipIdx.filter fun e => e.1 != e.2).length := by
  have index {x : Nat} (hx : x < 2 ^ n) : (BitVec.ofNat n x).toNat = x := by
    rw [BitVec.toNat_ofNat, Nat.mod_eq_of_lt hx]
  have entries : table.zipIdx = (List.range (2 ^ n)).map fun x => ((f (BitVec.ofNat n x)).toNat, x) := by
    refine List.ext_getElem (by simp [agrees.1]) fun x hx _ => ?_
    rw [List.length_zipIdx, agrees.1] at hx
    have entry := agrees.2 (BitVec.ofNat n x)
    rw [index hx, List.getElem?_eq_some_iff] at entry
    obtain ⟨_, entry⟩ := entry
    simp [entry]
  rw [entries, List.filter_map, List.length_map]
  refine congrArg List.length (List.filter_congr fun x hx => ?_)
  have hx := index (List.mem_range.mp hx)
  rw [Function.comp_apply, Bool.eq_iff_iff, bne_iff_ne, bne_iff_ne, ne_eq, ne_eq, ← BitVec.toNat_inj, hx]

theorem gammaExpand_gammaCompress_table :
    TableAgrees (gcmpTable.map (gexpTable.getD · 0)) fun i => (gammaExpand (gammaCompress i)).toNat :=
  tableAgrees_map_contents .gcmp rfl fun i => (Space.gexp.contents_getD_toNat (gammaCompress i)).symm

theorem gammaCompress_gammaExpand_table :
    TableAgrees (gexpTable.map (gcmpTable.getD · 0)) fun i => (gammaCompress (gammaExpand i)).toNat :=
  tableAgrees_map_contents .gexp rfl fun i => (Space.gcmp.contents_getD_toNat (gammaExpand i)).symm

/-- In the composed tables, 73 entries each differ from their index, in the first none below 75. -/
theorem composedTables_ne_index :
    ((gcmpTable.map (gexpTable.getD · 0)).zipIdx.filter fun e => e.1 != e.2).length = 73 ∧
      ((gexpTable.map (gcmpTable.getD · 0)).zipIdx.filter fun e => e.1 != e.2).length = 73 ∧
      ∀ e ∈ (gcmpTable.map (gexpTable.getD · 0)).zipIdx, e.2 < 75 → e.1 = e.2 := by
  decide +kernel

/-- Settles O29: the order and the bounds of the tables' entries, on the low lane; where a composition of the tables
is not the identity is read off the composed table. -/
theorem gammaTableProperties : Obligations.GammaTableProperties := by
  unfold Obligations.GammaTableProperties
  obtain ⟨expanded, compressed, first⟩ := composedTables_ne_index
  refine ⟨fun i j s h => ⟨_, _, _, _, rfl, rfl, rfl, rfl, ?_⟩,
    gammaExpand_gammaCompress_table.length_filter_ne.trans expanded,
    gammaCompress_gammaExpand_table.length_filter_ne.trans compressed, rfl, rfl, fun i hi => ?_, rfl⟩
  · simp only [State.driveY_y, resultLow_toNat _ (show 8 ≤ 24 by decide)]
    refine ⟨resultLow_mono (by decide) (Space.gexp.memRead_mono h),
      resultLow_mono (by decide) (Space.gcmp.memRead_mono h), gammaExpand_le i, le_gammaCompress i, ?_, ?_⟩
    · rintro rfl
      exact ⟨rfl, rfl⟩
    · rintro rfl
      exact ⟨rfl, rfl⟩
  · exact BitVec.eq_of_toNat_eq (first _ (gammaExpand_gammaCompress_table.mem_zipIdx i) hi)

/-! ### The transfer functions invert each other on each branch (R61) -/

theorem dec_enc_of_linear {c : ℝ} (hc : c ≤ 0.0031308) : dec (enc c) = c := by
  have image : enc c = 12.92 * c := if_pos hc
  have low : 12.92 * c ≤ 12.92 * 0.0031308 := by linarith
  rw [image, dec, if_pos low]
  ring

theorem dec_enc_of_power {c : ℝ} (hc : 0.0031308 < c) (image : 12.92 * 0.0031308 < enc c) : dec (enc c) = c := by
  have hc0 : 0 ≤ c := le_trans (by norm_num) hc.le
  have base : (enc c + 0.055) / 1.055 = c ^ ((1 : ℝ) / 2.4) := by
    rw [enc, if_neg hc.not_ge]
    ring
  rw [dec, if_neg image.not_ge, base, one_div, Real.rpow_inv_rpow hc0 (by norm_num)]

theorem enc_zero : enc 0 = 0 := by
  rw [enc, if_pos (by norm_num), mul_zero]

theorem enc_one : enc 1 = 1 := by
  rw [enc, if_neg (by norm_num), Real.one_rpow]
  norm_num

/-- Settles O30: on each branch one formula undoes the other, and 0 and 1 are the images of 0 and 1. -/
theorem decInvertsEnc : Obligations.DecInvertsEnc := by
  unfold Obligations.DecInvertsEnc
  have dec_zero : dec 0 = 0 := by
    simpa only [enc_zero] using dec_enc_of_linear (c := 0) (by norm_num)
  have dec_one : dec 1 = 1 := by
    simpa only [enc_one] using dec_enc_of_power (c := 1) (by norm_num) (by norm_num [enc_one])
  exact ⟨enc_zero, enc_one, dec_zero, dec_one, fun c _ hc => dec_enc_of_linear hc,
    fun c hc _ image => dec_enc_of_power hc image⟩

end Sys2Proof.Machine

/-! # Laws of the linear scalers

O32, O33, O34 and O35 (rules R55, R57, R58 and R59). The answers are read off the units' common form: the result of a
scaler is the scaled number (`widen5_toNat` and its like) on the low lane. -/

namespace Sys2Proof.Machine

/-! ### Rounding (R55) -/

/-- An odd divisor is never twice a remainder, so there is no tie to break. -/
theorem roundDiv_odd (mode : RoundMode) (p k : Nat) :
    roundDiv mode p (2 * k + 1) = roundDiv .halfUp p (2 * k + 1) := by
  cases mode with
  | halfUp => rfl
  | halfToEven => exact roundHalfToEven_of_no_tie (Nat.succ_pos _) (by omega)

/-- Settles O32: the divisors 31, 63 and 255 are odd. -/
theorem roundModeUnobservable : Obligations.RoundModeUnobservable := by
  unfold Obligations.RoundModeUnobservable
  exact ⟨roundDiv_odd, fun mode c => ⟨roundDiv_odd mode _ 15, roundDiv_odd mode _ 31, roundDiv_odd mode _ 127,
    roundDiv_odd mode _ 127⟩⟩

/-! ### Other formulas (R57) -/

theorem scale_31_255_eq_shift : ∀ c < 32, scale Config.roundMode 31 255 c = (c * 527 + 23) >>> 6 := by
  decide

theorem scale_63_255_eq_shift : ∀ c < 64, scale Config.roundMode 63 255 c = (c * 259 + 33) >>> 6 := by
  decide

theorem scale_255_eq_shift : ∀ c < 256, scale Config.roundMode 255 31 c = (c * 249 + 1014) >>> 11 ∧
    scale Config.roundMode 255 63 c = (c * 253 + 505) >>> 10 := by
  decide +kernel

theorem scale_31_255_ne_replication_iff :
    ∀ c < 32, scale Config.roundMode 31 255 c ≠ c <<< 3 ||| c >>> 2 ↔ c ∈ [3, 7, 24, 28] := by
  decide

theorem scale_63_255_ne_replication_iff : ∀ c < 64,
    scale Config.roundMode 63 255 c ≠ c <<< 2 ||| c >>> 4 ↔ c ∈ [11, 12, 13, 14, 15, 48, 49, 50, 51, 52] := by
  decide

/-- The result of an operation that drives the low lane, as a number (R42). -/
theorem driveY_resultLow_toNat {n : Nat} (s : State) (v : BitVec n) (hn : n ≤ 24) :
    (s.driveY (resultLow v)).y.toNat = v.toNat :=
  resultLow_toNat v hn

/-- The second formula of R51 to R54, with the factors in the rule's order. -/
theorem scale_odd_eq_comm (k p c : Nat) : scale Config.roundMode (2 * k + 1) p c = (p * c + k) / (2 * k + 1) := by
  rw [scale_odd_eq, Nat.mul_comm]

/-- Settles O33: the shift-and-multiply forms and the inputs at which replication or truncation differs are found by
evaluation on the ports' ranges; the other formula holds of every number (`scale_odd_eq`). -/
theorem equivalentFormulas : Obligations.EquivalentFormulas := by
  unfold Obligations.EquivalentFormulas
  refine ⟨fun c s => ?_, fun c s => ?_, fun c s => ?_, fun c s => ?_, by decide, by decide⟩
  · refine ⟨_, rfl, ?_⟩
    rw [driveY_resultLow_toNat _ _ (by decide), widen5_toNat]
    exact ⟨scale_31_255_eq_shift _ c.isLt, scale_odd_eq_comm 15 255 _, scale_31_255_ne_replication_iff _ c.isLt⟩
  · refine ⟨_, rfl, ?_⟩
    rw [driveY_resultLow_toNat _ _ (by decide), widen6_toNat]
    exact ⟨scale_63_255_eq_shift _ c.isLt, scale_odd_eq_comm 31 255 _, scale_63_255_ne_replication_iff _ c.isLt⟩
  · refine ⟨_, rfl, ?_⟩
    rw [driveY_resultLow_toNat _ _ (by decide), narrow5_toNat]
    exact ⟨(scale_255_eq_shift _ c.isLt).1, scale_odd_eq_comm 127 31 _⟩
  · refine ⟨_, rfl, ?_⟩
    rw [driveY_resultLow_toNat _ _ (by decide), narrow6_toNat]
    exact ⟨(scale_255_eq_shift _ c.isLt).2, scale_odd_eq_comm 127 63 _⟩

/-! ### Narrowing after widening (R58) -/

/-- Scaling up moves a value by less than half a step of the smaller scale, so scaling down again gives it back. -/
theorem scale_scale {q p : Nat} (c : Nat) (hq : 0 < q) (hqp : q < p) :
    scale Config.roundMode p q (scale Config.roundMode q p c) = c := by
  obtain ⟨lower, upper⟩ := (roundHalfUp_eq_iff (p := c * p) hq).mp
    (show roundHalfUp (c * p) q = scale Config.roundMode q p c from rfl)
  refine (roundHalfUp_eq_iff (by omega)).mpr ⟨?_, ?_⟩
  · nlinarith
  · nlinarith

@[simp] theorem narrow5_widen5 (c : Channel5) : narrow5 (widen5 c) = c := by
  rw [← BitVec.toNat_inj, narrow5_toNat, widen5_toNat, scale_scale _ (by decide) (by decide)]

@[simp] theorem narrow6_widen6 (c : Channel6) : narrow6 (widen6 c) = c := by
  rw [← BitVec.toNat_inj, narrow6_toNat, widen6_toNat, scale_scale _ (by decide) (by decide)]

/-- The low lane of a result is read back as it was driven (R42). -/
theorem extractLsb'_resultLow {n : Nat} (v : BitVec n) (hn : n ≤ 24) : (resultLow v).extractLsb' 0 n = v := by
  rw [← BitVec.toNat_inj, Laws.toNat_field, resultLow_toNat v hn, pow_zero, Nat.div_one, Nat.mod_eq_of_lt v.isLt]

/-- One operation on the low lane of another's result, as successive evaluations. -/
theorem exec_of_low_result {i : Instr} {n m x : Nat} {op : BitVec n → Instr} {v : BitVec n} {w : BitVec m} {s t : State}
    (hn : n ≤ 24) (first : ∀ s, exec i s = .next (s.driveY (resultLow v)))
    (second : ∀ s, exec (op v) s = .next (s.driveY (resultLow w))) (hw : w.toNat = x) (h : exec i s = .next t) :
    exec (op (t.y.extractLsb' 0 n)) t = .next { t with y := BitVec.ofNat 24 x } := by
  obtain rfl : s.driveY (resultLow v) = t := Host.Outcome.next.inj ((first s).symm.trans h)
  rw [State.driveY_y, extractLsb'_resultLow v hn, ← hw]
  exact (exec_and_step_of_drives_low second _).1

/-- Settles O34: the scalers' round trip on numbers (`scale_scale`), so the range of widening is where narrowing first
loses nothing. -/
theorem narrowAfterWiden : Obligations.NarrowAfterWiden := by
  unfold Obligations.NarrowAfterWiden
  refine ⟨fun c s t h => ?_, fun c s t h => ?_, fun x => ⟨⟨fun h => ⟨_, h⟩, ?_⟩, ⟨fun h => ⟨_, h⟩, ?_⟩⟩⟩
  · exact exec_of_low_result (op := .channel8ToChannel5Linear) (by decide) (fun _ => rfl) (fun _ => rfl)
      (congrArg BitVec.toNat (narrow5_widen5 c)) h
  · exact exec_of_low_result (op := .channel8ToChannel6Linear) (by decide) (fun _ => rfl) (fun _ => rfl)
      (congrArg BitVec.toNat (narrow6_widen6 c)) h
  · rintro ⟨c, rfl⟩
    rw [narrow5_widen5]
  · rintro ⟨c, rfl⟩
    rw [narrow6_widen6]

/-! ### The printed tables (R59) -/

/-- A table that lists a function's values in order has no defect (R123). -/
theorem tableAgrees_of_eq_generated {α : Type} {n : Nat} {table : List α} {f : BitVec n → α}
    (h : table = generated n f) : TableAgrees table f :=
  h ▸ tableAgrees_generated n f

theorem widen5Lut_agrees : TableAgrees widen5Lut fun c : Channel5 => (widen5 c).toNat :=
  tableAgrees_of_eq_generated (by decide)

theorem widen6Lut_agrees : TableAgrees widen6Lut fun c : Channel6 => (widen6 c).toNat :=
  tableAgrees_of_eq_generated (by decide)

theorem narrowLuts_eq_generated :
    narrow5Lut = generated 8 (fun c => (narrow5 c).toNat) ∧ narrow6Lut = generated 8 (fun c => (narrow6 c).toNat) := by
  decide +kernel

theorem narrow5Lut_agrees : TableAgrees narrow5Lut fun c : Channel8 => (narrow5 c).toNat :=
  tableAgrees_of_eq_generated narrowLuts_eq_generated.1

theorem narrow6Lut_agrees : TableAgrees narrow6Lut fun c : Channel8 => (narrow6 c).toNat :=
  tableAgrees_of_eq_generated narrowLuts_eq_generated.2

theorem narrow5Lut_sum : narrow5Lut.sum = 3968 := by
  simp only [narrow5Lut, List.sum_append]
  rfl

theorem narrow6Lut_sum : narrow6Lut.sum = 8064 := by
  simp only [narrow6Lut, List.sum_append]
  rfl

/-- What R59 says alike of each unit: the table holds the result. -/
theorem exists_exec_of_tableAgrees {n m : Nat} {op : BitVec n → Instr} {f : BitVec n → BitVec m} {table : List Nat}
    (agrees : TableAgrees table fun c => (f c).toNat) (hm : m ≤ 24)
    (drives : ∀ c s, exec (op c) s = .next (s.driveY (resultLow (f c)))) (c : BitVec n) (s : State) :
    ∃ t, exec (op c) s = .next t ∧ table[c.toNat]? = some t.y.toNat := by
  refine ⟨_, drives c s, ?_⟩
  rw [driveY_resultLow_toNat s (f c) hm]
  exact agrees.2 c

/-- Settles O35: the tables list the scalers' values in order. -/
theorem linearTables : Obligations.LinearTables := by
  unfold Obligations.LinearTables
  refine ⟨?_, ?_, ?_, ?_, rfl, rfl, narrow5Lut_sum, narrow6Lut_sum⟩
  · exact exists_exec_of_tableAgrees widen5Lut_agrees (by decide) fun _ _ => rfl
  · exact exists_exec_of_tableAgrees widen6Lut_agrees (by decide) fun _ _ => rfl
  · exact exists_exec_of_tableAgrees narrow5Lut_agrees (by decide) fun _ _ => rfl
  · exact exists_exec_of_tableAgrees narrow6Lut_agrees (by decide) fun _ _ => rfl

end Sys2Proof.Machine

/-! # Laws of the pixel units and of the byte swap

O36, O37, O38, O39 and O41 (rules R74, R75, R76, R81 and R82). The laws of evaluations come from the laws of the units'
functions, U8 with U9 (`pixelPack_pixelUnpack`, `pixelUnpack_pixelPack`) and U10 with itself. -/

namespace Sys2Proof.Machine

/-! ### U8, U0 and U1 (R74) -/

/-- Settles O36: U8's lanes hold what U0 and U1 drive the low lane with. -/
theorem unpackIsSideBySide : Obligations.UnpackIsSideBySide := by
  unfold Obligations.UnpackIsSideBySide
  intro pix s t hi lo mid high low middle
  cases high
  cases low
  cases middle
  simp only [driveY_resultLow_toNat _ _ (show 5 ≤ 24 by decide), driveY_resultLow_toNat _ _ (show 6 ≤ 24 by decide)]
  refine ⟨fun h => ?_, fun h => ?_⟩
  · cases h
    exact resultTriple_toNat (pixelUnpack .rgb565 pix)
  · cases h
    exact resultTriple_toNat (pixelUnpack .bgr565 pix)

/-! ### U8 and U9 (R75, R76) -/

/-- Settles O37: the functions of U8 and U9 invert each other, through the lanes of the result between them. -/
theorem packUnpackInverse : Obligations.PackUnpackInverse := by
  unfold Obligations.PackUnpackInverse
  refine ⟨fun order w s t h => ?_, fun order f s t h => ⟨_, rfl, ?_⟩⟩
  · cases h
    rw [State.driveY_y, tripleOfResult_resultTriple]
    have packed : (pixelPack order (pixelUnpack order w)).toNat = w.toNat := by rw [pixelPack_pixelUnpack]
    rw [← packed]
    exact (exec_and_step_of_drives_low (fun _ => rfl) _).1
  · cases h
    rw [State.driveY_y, State.driveY_y, tripleOfResult_resultTriple, extractLsb'_resultLow _ (by decide)]
    exact pixelUnpack_pixelPack order f

/-- A triple with red and blue exchanged (R76). -/
def exchangeRedBlue (t : FieldTriple) : FieldTriple := { r5 := t.b5, g6 := t.g6, b5 := t.r5 }

theorem pixelUnpack_bgr565 (w : Pixel) : pixelUnpack .bgr565 w = exchangeRedBlue (pixelUnpack .rgb565 w) := rfl

theorem pixelPack_bgr565 (t : FieldTriple) : pixelPack .bgr565 t = pixelPack .rgb565 (exchangeRedBlue t) := rfl

/-- Packing in one order after unpacking in the other exchanges the 5-bit fields, whichever comes first (R76, R91). -/
theorem swapComponents_eq_pack_rgb565 (w : Pixel) :
    swapComponents w = pixelPack .rgb565 (pixelUnpack .bgr565 w) := rfl

theorem swapComponents_toNat (w : Pixel) :
    (swapComponents w).toNat = bitsOf w.toNat 4 0 * 2048 + bitsOf w.toNat 10 5 * 32 + bitsOf w.toNat 15 11 := by
  rw [swapComponents_eq_pack_rgb565, pixelPack_toNat, pixelUnpack_r5_toNat, pixelUnpack_g6_toNat, pixelUnpack_b5_toNat]
  rfl

/-- Settles O38: the two orders read and write the same fields under exchanged names. -/
theorem orderExchangesRedAndBlue : Obligations.OrderExchangesRedAndBlue := by
  unfold Obligations.OrderExchangesRedAndBlue
  exact ⟨pixelUnpack_bgr565, pixelPack_bgr565, fun w => ⟨swapComponents_toNat w, swapComponents_toNat w⟩⟩

/-! ### U10 (R81, R82) -/

@[simp] theorem endiannessSwap_valueLe (p : BytePair) : endiannessSwap (valueLe p) = valueBe p := by
  rw [endiannessSwap_eq_valueBe, bytesLe_valueLe]

@[simp] theorem endiannessSwap_valueBe (p : BytePair) : endiannessSwap (valueBe p) = valueLe p := by
  rw [valueBe_eq_valueLe, endiannessSwap_valueLe, valueBe_eq_valueLe]

@[simp] theorem endiannessSwap_endiannessSwap (d : BitVec 16) : endiannessSwap (endiannessSwap d) = d := by
  rw [endiannessSwap_eq_valueBe d, endiannessSwap_valueBe, valueLe_bytesLe]

/-- Settles O39: U10 undoes itself on the low lane of its result. -/
theorem swapTwiceIsIdentity : Obligations.SwapTwiceIsIdentity := by
  unfold Obligations.SwapTwiceIsIdentity
  intro d s t h
  exact exec_of_low_result (op := .endiannessSwap16b) (by decide) (fun _ => rfl) (fun _ => rfl)
    (congrArg BitVec.toNat (endiannessSwap_endiannessSwap d)) h

/-- Settles O41: U10 reads a pair's little-endian bytes big-endian, and the other way round. -/
theorem swapConvertsReadings : Obligations.SwapConvertsReadings := by
  unfold Obligations.SwapConvertsReadings
  have answer (d : BitVec 16) (s : State) :
      exec (.endiannessSwap16b d) s = .next { s with y := (endiannessSwap d).setWidth 24 } := rfl
  refine ⟨fun p s => ⟨?_, ?_, valueBe_eq_valueLe p⟩, fun w => ?_⟩
  · rw [answer, endiannessSwap_valueLe]
  · rw [answer, endiannessSwap_valueBe]
  · exact (bytesLe_valueLe (bytesBe w)).symm

end Sys2Proof.Machine

/-! # The tables of the acceleration layer and the sRGB channel conversions

O59, O54, O45, O46, O47, O52 and O53 (rules R23, R97, R98, R101, R106 to R108, R123 and R149). A printed table lists its
function's values in order; whatever is read from it, by a switch or beside a line's value, is then the function's. -/

namespace Sys2Proof.Machine

/-! ### The tables of R23 (R123, R149) -/

theorem expand5SrgbLut_agrees : TableAgrees expand5SrgbLut fun c : Channel5 => (expand5Srgb c).toNat :=
  tableAgrees_of_eq_generated (by decide)

theorem expand6SrgbLut_agrees : TableAgrees expand6SrgbLut fun c : Channel6 => (expand6Srgb c).toNat :=
  tableAgrees_of_eq_generated (by decide)

theorem contract5SrgbLut_eq_map : contract5SrgbLut = gexpTable.map (scale Config.roundMode 255 31) := by
  simp only [contract5SrgbLut, gexpTable, List.map_append]
  rfl

theorem contract6SrgbLut_eq_map : contract6SrgbLut = gexpTable.map (scale Config.roundMode 255 63) := by
  simp only [contract6SrgbLut, gexpTable, List.map_append]
  rfl

theorem contract5SrgbLut_agrees : TableAgrees contract5SrgbLut fun s : Channel8s => (contract5Srgb s).toNat :=
  tableAgrees_map_contents .gexp contract5SrgbLut_eq_map fun s => narrow5_toNat (gammaExpand s)

theorem contract6SrgbLut_agrees : TableAgrees contract6SrgbLut fun s : Channel8s => (contract6Srgb s).toNat :=
  tableAgrees_map_contents .gexp contract6SrgbLut_eq_map fun s => narrow6_toNat (gammaExpand s)

/-- Three bytes side by side are read back as they were laid out (R37). -/
theorem bytes_of_concat (r g b : Byte) :
    (r ++ g ++ b).extractLsb' 16 8 = r ∧ (r ++ g ++ b).extractLsb' 8 8 = g ∧ (r ++ g ++ b).extractLsb' 0 8 = b := by
  refine ⟨?_, ?_, BitVec.extractLsb'_append_eq_right⟩
  · exact (BitVec.extractLsb'_append_eq_of_le (by decide)).trans BitVec.extractLsb'_append_eq_left
  · exact (BitVec.extractLsb'_append_eq_of_le (by decide)).trans BitVec.extractLsb'_append_eq_right

@[simp] theorem rgb888OfBits_rgb888Bits (t : Rgb888) : rgb888OfBits (rgb888Bits t) = t := by
  obtain ⟨r, g, b⟩ := t
  obtain ⟨high, mid, low⟩ := bytes_of_concat r g b
  exact congr (congrArg₂ Rgb888.mk high mid) low

@[simp] theorem srgb888OfBits_srgb888Bits (t : Srgb888) : srgb888OfBits (srgb888Bits t) = t := by
  obtain ⟨r, g, b⟩ := t
  obtain ⟨high, mid, low⟩ := bytes_of_concat r g b
  exact congr (congrArg₂ Srgb888.mk high mid) low

/-- A table over the 24 bits of a triple holds the function's value at the triple's bits. -/
theorem generated_getElem?_rgb888Bits {α : Type} (f : Rgb888 → α) (t : Rgb888) :
    (generated 24 fun v => f (rgb888OfBits v))[(rgb888Bits t).toNat]? = some (f t) := by
  rw [(tableAgrees_generated 24 _).2, rgb888OfBits_rgb888Bits]

theorem generated_getElem?_srgb888Bits {α : Type} (f : Srgb888 → α) (t : Srgb888) :
    (generated 24 fun v => f (srgb888OfBits v))[(srgb888Bits t).toNat]? = some (f t) := by
  rw [(tableAgrees_generated 24 _).2, srgb888OfBits_srgb888Bits]

/-- Settles O59: the eight printed tables list the functions' values, and a generated table has no defect. -/
theorem tablesHaveNoDefect : Obligations.TablesHaveNoDefect := by
  unfold Obligations.TablesHaveNoDefect
  refine ⟨tableAgrees_generated _ _, widen5Lut_agrees, widen6Lut_agrees, expand5SrgbLut_agrees, expand6SrgbLut_agrees,
    narrow5Lut_agrees, narrow6Lut_agrees, contract5SrgbLut_agrees, contract6SrgbLut_agrees, fun order => ?_⟩
  exact ⟨tableAgrees_generated _ _, tableAgrees_generated _ _, generated_getElem?_rgb888Bits (rgb888ToPixel · order),
    generated_getElem?_srgb888Bits (srgb888ToPixel · order), generated_length _ _, generated_length _ _⟩

/-! ### The switches (R101, R108) -/

/-- Whichever way a switch selects, a table without defect answers what the function answers. -/
theorem select_table_eq {n m : Nat} {table : List Nat} {f : BitVec n → BitVec m} {c : BitVec n} {v : BitVec m}
    {switch : Bool} (agrees : TableAgrees table fun c => (f c).toNat) (bound : c.toNat < table.length) (hv : v = f c) :
    (if switch then BitVec.ofNat m table[c.toNat] else v) = f c := by
  have entry : table[c.toNat] = (f c).toNat := by
    rw [← Option.some_inj, ← List.getElem?_eq_getElem bound, agrees.2 c]
  rw [entry, BitVec.ofNat_toNat, BitVec.setWidth_eq, hv, ite_self]

theorem widen5By_eq (st : LutStrategy) (c : Channel5) : widen5By st c = widen5 c :=
  select_table_eq widen5Lut_agrees _ rfl

theorem widen6By_eq (st : LutStrategy) (c : Channel6) : widen6By st c = widen6 c :=
  select_table_eq widen6Lut_agrees _ rfl

theorem narrow5By_eq (st : LutStrategy) (c : Channel8) : narrow5By st c = narrow5 c :=
  select_table_eq narrow5Lut_agrees _ rfl

theorem narrow6By_eq (st : LutStrategy) (c : Channel8) : narrow6By st c = narrow6 c :=
  select_table_eq narrow6Lut_agrees _ rfl

theorem expand5SrgbBy_eq (st : LutStrategy) (c : Channel5) : expand5SrgbBy st c = expand5Srgb c :=
  select_table_eq expand5SrgbLut_agrees _ (congrArg gammaCompress (widen5By_eq st c))

theorem expand6SrgbBy_eq (st : LutStrategy) (c : Channel6) : expand6SrgbBy st c = expand6Srgb c :=
  select_table_eq expand6SrgbLut_agrees _ (congrArg gammaCompress (widen6By_eq st c))

theorem contract5SrgbBy_eq (st : LutStrategy) (s : Channel8s) : contract5SrgbBy st s = contract5Srgb s :=
  select_table_eq contract5SrgbLut_agrees _ (narrow5By_eq st (gammaExpand s))

theorem contract6SrgbBy_eq (st : LutStrategy) (s : Channel8s) : contract6SrgbBy st s = contract6Srgb s :=
  select_table_eq contract6SrgbLut_agrees _ (narrow6By_eq st (gammaExpand s))

theorem swapComponentsBy_eq (st : LutStrategy) (w : Pixel) : swapComponentsBy st w = swapComponents w := by
  rw [swapComponentsBy, lookup_eq]
  exact ite_self _

theorem pixelToRgb888By_eq (st : LutStrategy) (w : Pixel) (order : ComponentOrder) :
    pixelToRgb888By st w order = pixelToRgb888 w order := by
  simp only [pixelToRgb888By, lookup_eq, widen5By_eq, widen6By_eq]
  exact ite_self _

theorem pixelToSrgb888By_eq (st : LutStrategy) (w : Pixel) (order : ComponentOrder) :
    pixelToSrgb888By st w order = pixelToSrgb888 w order := by
  simp only [pixelToSrgb888By, lookup_eq, expand5SrgbBy_eq, expand6SrgbBy_eq]
  exact ite_self _

theorem rgb888ToPixelBy_eq (st : LutStrategy) (t : Rgb888) (order : ComponentOrder) :
    rgb888ToPixelBy st t order = rgb888ToPixel t order := by
  simp only [rgb888ToPixelBy, lookup_eq, rgb888OfBits_rgb888Bits, narrow5By_eq, narrow6By_eq]
  exact ite_self _

theorem srgb888ToPixelBy_eq (st : LutStrategy) (t : Srgb888) (order : ComponentOrder) :
    srgb888ToPixelBy st t order = srgb888ToPixel t order := by
  simp only [srgb888ToPixelBy, lookup_eq, srgb888OfBits_srgb888Bits, contract5SrgbBy_eq, contract6SrgbBy_eq]
  exact ite_self _

/-- Settles O54: either way of a switch answers the same, function by function. -/
theorem lutStrategyUnobservable : Obligations.LutStrategyUnobservable := by
  unfold Obligations.LutStrategyUnobservable
  exact fun st => ⟨widen5By_eq st, widen6By_eq st, narrow5By_eq st, narrow6By_eq st, expand5SrgbBy_eq st,
    expand6SrgbBy_eq st, contract5SrgbBy_eq st, contract6SrgbBy_eq st, swapComponentsBy_eq st, pixelToRgb888By_eq st,
    pixelToSrgb888By_eq st, rgb888ToPixelBy_eq st, srgb888ToPixelBy_eq st⟩

/-! ### The two-stage tables and the lines (R97, R106) -/

/-- Where a program binds a function's value, it binds the entry of the function's table. -/
theorem Runs.exists_lookup_entry {n m : Nat} {table : List Nat} {f : BitVec n → BitVec m} {c : BitVec n}
    {ls : List Line} {env : Env} {x : String} (agrees : TableAgrees table fun c => (f c).toNat) (runs : Runs [] ls env)
    (look : lookupName env x = some (.scalar (f c).toNat)) (b : State) :
    ∃ h, runLines { env := [], block := b } ls = .ok h ∧ lookupName h.env x = table[c.toNat]?.map .scalar := by
  obtain ⟨t, run⟩ := runs b
  exact ⟨_, run, by rw [agrees.2 c, look, Option.map_some]⟩

/-- Settles O45: the lines bind the conversions' values, which the tables list. -/
theorem srgbTables : Obligations.SrgbTables := by
  unfold Obligations.SrgbTables
  refine fun b => ⟨fun c => ?_, fun c => ?_, fun s => ?_, fun s => ?_⟩
  · exact (runs_linesExpand5Srgb c).exists_lookup_entry expand5SrgbLut_agrees rfl b
  · exact (runs_linesExpand6Srgb c).exists_lookup_entry expand6SrgbLut_agrees rfl b
  · exact (runs_linesContract5Srgb s).exists_lookup_entry contract5SrgbLut_agrees rfl b
  · exact (runs_linesContract6Srgb s).exists_lookup_entry contract6SrgbLut_agrees rfl b

theorem widen5_eq_expand5Srgb_iff :
    ∀ c : Channel5, (widen5 c).toNat = (expand5Srgb c).toNat ↔ c = 0#5 ∨ c = 31#5 := by
  decide

theorem widen6_eq_expand6Srgb_iff :
    ∀ c : Channel6, (widen6 c).toNat = (expand6Srgb c).toNat ↔ c = 0#6 ∨ c = 63#6 := by
  decide

/-- Settles O53: compression never lowers a code (`le_gammaCompress`), and keeps a widened one only at the two ends. -/
theorem srgbAboveLinear : Obligations.SrgbAboveLinear := by
  unfold Obligations.SrgbAboveLinear
  refine ⟨fun b c => ?_, fun b c => ?_⟩
  · obtain ⟨t, run⟩ := runs_linesExpand5Srgb c b
    refine ⟨_, _, _, run, rfl, rfl, le_gammaCompress (widen5 c), widen5_eq_expand5Srgb_iff c, ?_⟩
    rintro rfl
    exact ⟨rfl, rfl⟩
  · obtain ⟨t, run⟩ := runs_linesExpand6Srgb c b
    exact ⟨_, _, _, run, rfl, rfl, le_gammaCompress (widen6 c), widen6_eq_expand6Srgb_iff c⟩

/-! ### The other reading of the sRGB path: where it differs (R98)

What is evaluated about a table is evaluated once, in a pass over its entries with their indices. -/

/-- Read as `m`-bit values, the numbers of a table that fit `m` bits are themselves. -/
theorem tableAgrees_ofNat {table : List Nat} {n m : Nat} (length : table.length = 2 ^ n)
    (fit : ∀ k ∈ table, k < 2 ^ m) :
    TableAgrees table fun i : BitVec n => (BitVec.ofNat m (table[i.toNat]'(length ▸ i.isLt))).toNat := by
  refine ⟨length, fun i => ?_⟩
  have inside : i.toNat < table.length := length ▸ i.isLt
  have same := Nat.mod_eq_of_lt (fit _ (List.getElem_mem inside))
  simp only [List.getElem?_eq_getElem inside, BitVec.toNat_ofNat, same]

theorem TableAgrees.zip {α β : Type} {n : Nat} {t : List α} {u : List β} {f : BitVec n → α} {g : BitVec n → β}
    (ht : TableAgrees t f) (hu : TableAgrees u g) : TableAgrees (t.zip u) fun i => (f i, g i) := by
  refine ⟨by rw [List.length_zip, ht.1, hu.1, Nat.min_self], fun i => ?_⟩
  exact List.getElem?_zip_eq_some.mpr ⟨ht.2 i, hu.2 i⟩

theorem expand5SrgbSingleLut_agrees :
    TableAgrees expand5SrgbSingleLut fun c => (expand5SrgbOn .singleRound c).toNat :=
  tableAgrees_ofNat expand5SrgbSingleLut_length (by decide)

theorem expand6SrgbSingleLut_agrees :
    TableAgrees expand6SrgbSingleLut fun c => (expand6SrgbOn .singleRound c).toNat :=
  tableAgrees_ofNat expand6SrgbSingleLut_length (by decide)

theorem contract5SrgbSingleLut_agrees :
    TableAgrees contract5SrgbSingleLut fun s => (contract5SrgbOn .singleRound s).toNat := by
  refine tableAgrees_ofNat contract5SrgbSingleLut_length ?_
  simp only [contract5SrgbSingleLut, List.forall_mem_append]
  decide

theorem contract6SrgbSingleLut_agrees :
    TableAgrees contract6SrgbSingleLut fun s => (contract6SrgbOn .singleRound s).toNat := by
  refine tableAgrees_ofNat contract6SrgbSingleLut_length ?_
  simp only [contract6SrgbSingleLut, List.forall_mem_append]
  decide

/-- Two functions differ where their tables do. -/
theorem ne_iff_of_tables {n m : Nat} {t u diffs : List Nat} {f g : BitVec n → BitVec m}
    (ht : TableAgrees t fun i => (f i).toNat) (hu : TableAgrees u fun i => (g i).toNat)
    (h : ∀ e ∈ (t.zip u).zipIdx, e.1.1 ≠ e.1.2 ↔ e.2 ∈ diffs) (i : BitVec n) : f i ≠ g i ↔ i.toNat ∈ diffs := by
  rw [← h _ ((ht.zip hu).mem_zipIdx i), ne_eq, ne_eq, BitVec.toNat_inj]

/-- Settles O47: the indices at which the printed tables of the two readings differ are found by evaluation. -/
theorem srgbPathDifferences : Obligations.SrgbPathDifferences := by
  unfold Obligations.SrgbPathDifferences
  refine ⟨?_, ?_, ?_, ?_⟩
  · exact ne_iff_of_tables expand5SrgbSingleLut_agrees expand5SrgbLut_agrees (by decide +kernel)
  · exact ne_iff_of_tables expand6SrgbSingleLut_agrees expand6SrgbLut_agrees (by decide +kernel)
  · exact ne_iff_of_tables contract5SrgbSingleLut_agrees contract5SrgbLut_agrees (by decide +kernel)
  · exact ne_iff_of_tables contract6SrgbSingleLut_agrees contract6SrgbLut_agrees (by decide +kernel)

/-! ### The other reading of the sRGB path: its definition (R98) -/

/-- The exact test that `enc` of a rational above the linear branch rounds to `k` at full scale 255: the test of R66 for
any such rational. -/
def encTest (x : ℚ) (k : ℕ) : Prop := lowerEdge k ^ 12 ≤ x ^ 5 ∧ x ^ 5 < lowerEdge (k + 1) ^ 12

/-- The exact test that `dec` of the code `i`, above the linear branch, rounds to `k` at full scale `n`. -/
def decTest (n i k : ℕ) : Prop :=
  ((2 * (k : ℚ) - 1) / (2 * n)) ^ 5 ≤ encodedBase i ^ 12 ∧ encodedBase i ^ 12 < ((2 * (k : ℚ) + 1) / (2 * n)) ^ 5

/-- The comparison with an edge of R66 (`le_quantise_enc_iff`) at any rational, not at fractions of 255 only. -/
theorem le_quantise_enc_ratCast_iff {x : ℚ} (hx : 0.0031308 < x) (k : ℕ) :
    (k : ℤ) ≤ quantise 255 (enc x) ↔ lowerEdge k ^ 12 ≤ x ^ 5 := by
  have hc : (0.0031308 : ℝ) < x := by
    have := (Rat.cast_lt (K := ℝ)).mpr hx
    norm_num at this ⊢
    exact this
  have hedge : ((2 * k - 1) / (2 * (255 : ℕ)) + 0.055) / 1.055 = (lowerEdge k : ℝ) := by
    rw [lowerEdge]
    push_cast
    norm_num
  have hpos : (0 : ℝ) ≤ (2 * k - 1) / (2 * (255 : ℕ)) + 0.055 := by
    have : (0 : ℝ) ≤ k := k.cast_nonneg
    norm_num1
    linarith
  rw [le_quantise_iff (by decide), le_enc_iff hc hpos, hedge, ← Rat.cast_le (K := ℝ)]
  push_cast
  rfl

theorem quantise_enc_of_encTest {x : ℚ} {k : ℕ} (hx : 0.0031308 < x) (test : encTest x k) :
    quantise 255 (enc x) = k := by
  rw [quantise_eq_iff, le_quantise_enc_ratCast_iff hx, le_quantise_enc_ratCast_iff hx, not_le]
  exact test

/-- The comparison with an edge of R66 (`le_quantise_dec_iff`) at any full scale of the result. -/
theorem le_quantise_dec_scale_iff {n i : ℕ} (hn : 0 < n) (hi : 11 ≤ i) (k : ℕ) :
    (k : ℤ) ≤ quantise n (dec ((i : ℝ) / 255)) ↔ ((2 * (k : ℚ) - 1) / (2 * n)) ^ 5 ≤ encodedBase i ^ 12 := by
  have hv : (12.92 * 0.0031308 : ℝ) < (i : ℝ) / 255 := by
    have : (11 : ℝ) ≤ i := by exact_mod_cast hi
    linarith
  rw [le_quantise_iff hn, le_dec_iff hv, encodedBase, ← Rat.cast_le (K := ℝ)]
  push_cast
  norm_num

theorem quantise_dec_of_decTest {n i k : ℕ} (hn : 0 < n) (hi : 11 ≤ i) (test : decTest n i k) :
    quantise n (dec ((i : ℝ) / 255)) = k := by
  have next : (2 * ((k + 1 : ℕ) : ℚ) - 1) = 2 * k + 1 := by
    push_cast
    ring
  rw [quantise_eq_iff, le_quantise_dec_scale_iff hn hi, le_quantise_dec_scale_iff hn hi, next, not_le]
  exact test

/-- What is to be evaluated of an entry `k` for the code `c` of full scale `d`: at 0, where `enc` is linear, it is 0,
and at every other code it passes the test. -/
def encEntry (d c k : ℕ) : Prop := (c = 0 → k = 0) ∧ (1 ≤ c → encTest (c / d) k)

/-- What is to be evaluated of an entry `k` of full scale `n` for the code `i`: where `dec` is linear it is the rounded
quotient, and above it passes the test. -/
def decEntry (n i k : ℕ) : Prop :=
  (i ≤ 10 → k = roundHalfUp (n * (25 * i)) (323 * 255)) ∧ (11 ≤ i → decTest n i k)

theorem eq_quantise_enc_of_encEntry {d c k : ℕ} (hd : d ≤ 255) (hc : c ≤ d) (entry : encEntry d c k) :
    (k : ℤ) = quantise 255 (enc ((c : ℝ) / d)) := by
  obtain ⟨zero, test⟩ := entry
  rcases Nat.eq_zero_or_pos c with rfl | power
  · rw [zero rfl, Nat.cast_zero, Nat.cast_zero, zero_div, enc_zero, quantise]
    norm_num
  · have above : (0.0031308 : ℚ) < c / d := by
      have one_le : (1 : ℚ) ≤ c := by exact_mod_cast power
      have pos : (0 : ℚ) < d := by exact_mod_cast Nat.lt_of_lt_of_le power hc
      have le : (d : ℚ) ≤ 255 := by exact_mod_cast hd
      rw [lt_div_iff₀ pos]
      linarith
    have rounded := quantise_enc_of_encTest above (test power)
    push_cast at rounded
    exact rounded.symm

theorem eq_quantise_dec_of_decEntry {n i k : ℕ} (hn : 0 < n) (entry : decEntry n i k) :
    (k : ℤ) = quantise n (dec ((i : ℝ) / 255)) := by
  obtain ⟨linear, test⟩ := entry
  rcases Nat.lt_or_ge 10 i with power | low
  · exact (quantise_dec_of_decTest hn power (test power)).symm
  · rw [quantise_dec_of_linear n low, linear low]

theorem expandSrgbSingleLuts_encEntry : (∀ e ∈ expand5SrgbSingleLut.zipIdx, encEntry 31 e.2 e.1) ∧
    ∀ e ∈ expand6SrgbSingleLut.zipIdx, encEntry 63 e.2 e.1 := by
  unfold encEntry encTest
  decide +kernel

theorem contractSrgbSingleLuts_decEntry : (∀ e ∈ contract5SrgbSingleLut.zipIdx, decEntry 31 e.2 e.1) ∧
    ∀ e ∈ contract6SrgbSingleLut.zipIdx, decEntry 63 e.2 e.1 := by
  unfold decEntry decTest
  decide +kernel

/-- Settles O46: every entry passes the exact test of its transfer function, or is the rounded value of the linear
branch. -/
theorem singleRoundDefinitions : Obligations.SingleRoundDefinitions := by
  unfold Obligations.SingleRoundDefinitions
  refine ⟨fun c => ?_, fun c => ?_, fun s => ?_, fun s => ?_⟩
  · exact eq_quantise_enc_of_encEntry (d := 31) (by decide) (Nat.le_of_lt_succ c.isLt)
      (expandSrgbSingleLuts_encEntry.1 _ (expand5SrgbSingleLut_agrees.mem_zipIdx c))
  · exact eq_quantise_enc_of_encEntry (d := 63) (by decide) (Nat.le_of_lt_succ c.isLt)
      (expandSrgbSingleLuts_encEntry.2 _ (expand6SrgbSingleLut_agrees.mem_zipIdx c))
  · exact eq_quantise_dec_of_decEntry (by decide)
      (contractSrgbSingleLuts_decEntry.1 _ (contract5SrgbSingleLut_agrees.mem_zipIdx s))
  · exact eq_quantise_dec_of_decEntry (by decide)
      (contractSrgbSingleLuts_decEntry.2 _ (contract6SrgbSingleLut_agrees.mem_zipIdx s))

/-! ### Channels survive both readings (R107) -/

/-- A function undoes another where its table does. -/
theorem comp_eq_self_of_tables {n m : Nat} {t u : List Nat} {f : BitVec n → BitVec m} {g : BitVec m → BitVec n}
    (ht : TableAgrees t fun i => (f i).toNat) (hu : TableAgrees u fun i => (g i).toNat)
    (h : ∀ e ∈ t.zipIdx, u[e.1]? = some e.2) (i : BitVec n) : g (f i) = i := by
  have entry := h _ (ht.mem_zipIdx i)
  rw [hu.2 (f i), Option.some_inj] at entry
  exact BitVec.eq_of_toNat_eq entry

theorem contract5SrgbOn_expand5SrgbOn (path : SrgbPath) (c : Channel5) :
    contract5SrgbOn path (expand5SrgbOn path c) = c := by
  cases path with
  | twoStage => exact comp_eq_self_of_tables expand5SrgbLut_agrees contract5SrgbLut_agrees (by decide) c
  | singleRound => exact comp_eq_self_of_tables expand5SrgbSingleLut_agrees contract5SrgbSingleLut_agrees (by decide) c

theorem contract6SrgbOn_expand6SrgbOn (path : SrgbPath) (c : Channel6) :
    contract6SrgbOn path (expand6SrgbOn path c) = c := by
  cases path with
  | twoStage => exact comp_eq_self_of_tables expand6SrgbLut_agrees contract6SrgbLut_agrees (by decide +kernel) c
  | singleRound =>
    exact comp_eq_self_of_tables expand6SrgbSingleLut_agrees contract6SrgbSingleLut_agrees (by decide +kernel) c

@[simp] theorem contract5Srgb_expand5Srgb (c : Channel5) : contract5Srgb (expand5Srgb c) = c :=
  contract5SrgbOn_expand5SrgbOn Config.srgbPath c

@[simp] theorem contract6Srgb_expand6Srgb (c : Channel6) : contract6Srgb (expand6Srgb c) = c :=
  contract6SrgbOn_expand6SrgbOn Config.srgbPath c

@[simp] theorem srgb888ToPixel_pixelToSrgb888 (w : Pixel) (order : ComponentOrder) :
    srgb888ToPixel (pixelToSrgb888 w order) order = w := by
  simp only [srgb888ToPixel, pixelToSrgb888, contract5Srgb_expand5Srgb, contract6Srgb_expand6Srgb]
  exact pixelPack_pixelUnpack order w

@[simp] theorem rgb888ToPixel_pixelToRgb888 (w : Pixel) (order : ComponentOrder) :
    rgb888ToPixel (pixelToRgb888 w order) order = w := by
  simp only [rgb888ToPixel, pixelToRgb888, narrow5_widen5, narrow6_widen6]
  exact pixelPack_pixelUnpack order w

/-- Settles O52: channel by channel, and then the packed fields. -/
theorem wholePixelsSurvive : Obligations.WholePixelsSurvive := by
  unfold Obligations.WholePixelsSurvive
  exact ⟨contract5SrgbOn_expand5SrgbOn, contract6SrgbOn_expand6SrgbOn,
    fun order w => ⟨srgb888ToPixel_pixelToSrgb888 w order, rgb888ToPixel_pixelToRgb888 w order⟩⟩

end Sys2Proof.Machine

/-! # The whole-pixel conversions

O44, O48, O49 and O58 (rules R91 to R96 and R103). The lines of a conversion bind, name by name, the values of the
operations they write; the laws of the conversions are those of their halves, U8 with U9 and the two byte handlings. -/

namespace Sys2Proof.Machine

/-! ### Programs one after another (R46) -/

theorem runLines_append {h h' : HostState} {ls : List Line} (run : runLines h ls = .ok h') (ms : List Line) :
    runLines h (ls ++ ms) = runLines h' ms := by
  induction ls generalizing h with
  | nil =>
    cases run
    rfl
  | cons l ls ih =>
    simp only [List.cons_append, runLines] at run ⊢
    cases line : evalLine h l with
    | error e =>
      rw [line] at run
      cases run
    | ok k =>
      rw [line] at run
      exact ih run

theorem Runs.append {env₁ env₂ env₃ : Env} {ls ms : List Line} (first : Runs env₁ ls env₂)
    (second : Runs env₂ ms env₃) : Runs env₁ (ls ++ ms) env₃ := by
  intro b
  obtain ⟨t, run⟩ := first b
  obtain ⟨u, rest⟩ := second t
  exact ⟨u, (runLines_append run ms).trans rest⟩

/-! ### The lines between pixels and triples (R92 to R95) -/

theorem runs_linesPixelToRgb888 (w : Pixel) (order : ComponentOrder) :
    Runs [] (linesPixelToRgb888 w order)
      [("t", .triple (pixelUnpack order w)), ("R", .scalar (pixelToRgb888 w order).r.toNat),
        ("G", .scalar (pixelToRgb888 w order).g.toNat), ("B", .scalar (pixelToRgb888 w order).b.toNat)] :=
  .cons (.rgb565PixelUnpack order w) (lineForm_pixelUnpack _ _) rfl rfl
    (.cons (.channel5ToChannel8Linear (pixelUnpack order w).r5) rfl rfl rfl
      (.cons (.channel6ToChannel8Linear (pixelUnpack order w).g6) rfl rfl rfl
        (.cons (.channel5ToChannel8Linear (pixelUnpack order w).b5) rfl rfl rfl .nil)))

theorem runs_linesPixelToSrgb888 (w : Pixel) (order : ComponentOrder) :
    Runs [] (linesPixelToSrgb888 w order)
      [("t", .triple (pixelUnpack order w)), ("r", .scalar (pixelToRgb888 w order).r.toNat),
        ("g", .scalar (pixelToRgb888 w order).g.toNat), ("b", .scalar (pixelToRgb888 w order).b.toNat),
        ("Rs", .scalar (pixelToSrgb888 w order).r.toNat), ("Gs", .scalar (pixelToSrgb888 w order).g.toNat),
        ("Bs", .scalar (pixelToSrgb888 w order).b.toNat)] :=
  .cons (.rgb565PixelUnpack order w) (lineForm_pixelUnpack _ _) rfl rfl
    (.cons (.channel5ToChannel8Linear (pixelUnpack order w).r5) rfl rfl rfl
      (.cons (.channel6ToChannel8Linear (pixelUnpack order w).g6) rfl rfl rfl
        (.cons (.channel5ToChannel8Linear (pixelUnpack order w).b5) rfl rfl rfl
          (.cons (.srgbGammaCompressLut (pixelToRgb888 w order).r) rfl rfl rfl
            (.cons (.srgbGammaCompressLut (pixelToRgb888 w order).g) rfl rfl rfl
              (.cons (.srgbGammaCompressLut (pixelToRgb888 w order).b) rfl rfl rfl .nil))))))

theorem runs_linesRgb888ToPixel (t : Rgb888) (order : ComponentOrder) :
    Runs [] (linesRgb888ToPixel t order)
      [("r5", .scalar (narrow5 t.r).toNat), ("g6", .scalar (narrow6 t.g).toNat), ("b5", .scalar (narrow5 t.b).toNat),
        ("w", .scalar (rgb888ToPixel t order).toNat)] :=
  .cons (.channel8ToChannel5Linear t.r) rfl rfl rfl
    (.cons (.channel8ToChannel6Linear t.g) rfl rfl rfl
      (.cons (.channel8ToChannel5Linear t.b) rfl rfl rfl
        (.cons (.rgb565PixelPack order (narrow5 t.r) (narrow6 t.g) (narrow5 t.b))
          (lineForm_pixelPack order ⟨narrow5 t.r, narrow6 t.g, narrow5 t.b⟩) rfl rfl .nil)))

theorem runs_linesSrgb888ToPixel (t : Srgb888) (order : ComponentOrder) :
    Runs [] (linesSrgb888ToPixel t order)
      [("r", .scalar (gammaExpand t.r).toNat), ("g", .scalar (gammaExpand t.g).toNat),
        ("b", .scalar (gammaExpand t.b).toNat), ("r5", .scalar (contract5Srgb t.r).toNat),
        ("g6", .scalar (contract6Srgb t.g).toNat), ("b5", .scalar (contract5Srgb t.b).toNat),
        ("w", .scalar (srgb888ToPixel t order).toNat)] :=
  .cons (.srgbGammaExpandLut t.r) rfl rfl rfl
    (.cons (.srgbGammaExpandLut t.g) rfl rfl rfl
      (.cons (.srgbGammaExpandLut t.b) rfl rfl rfl
        (.cons (.channel8ToChannel5Linear (gammaExpand t.r)) rfl rfl rfl
          (.cons (.channel8ToChannel6Linear (gammaExpand t.g)) rfl rfl rfl
            (.cons (.channel8ToChannel5Linear (gammaExpand t.b)) rfl rfl rfl
              (.cons (.rgb565PixelPack order (contract5Srgb t.r) (contract6Srgb t.g) (contract5Srgb t.b))
                (lineForm_pixelPack order ⟨contract5Srgb t.r, contract6Srgb t.g, contract5Srgb t.b⟩) rfl rfl
                .nil))))))

/-! ### The lines between byte pairs (R96) -/

theorem swapBytes_eq (p : BytePair) : swapBytes p = { b0 := p.b1, b1 := p.b0 } := by
  rw [swapBytes, busValue, busBytes, endiannessSwap_valueLe, valueBe_eq_valueLe, bytesLe_valueLe]

theorem runs_linesSwapBytes (v : BitVec 16) :
    Runs [] (linesSwapBytes v) [("v2", .scalar (endiannessSwap v).toNat)] :=
  .cons (.endiannessSwap16b v) rfl rfl rfl .nil

/-- A bound bus value, read back on the bus, carries its bytes. -/
theorem busBytes_ofNat_toNat (v : BitVec 16) : busBytes (BitVec.ofNat 16 v.toNat) = busBytes v := by
  rw [BitVec.ofNat_toNat, BitVec.setWidth_eq]

/-- The second half of the bytes-to-bytes lines: pack the lanes of the triple `t`, in the target's order and
endianness (R96 (c)). -/
def linesPackLanes (order : ComponentOrder) : Endianness → List Line
  | .little => [⟨"v2", .rgb565PixelPack, orderMode order, [.lane "t" .r5, .lane "t" .g6, .lane "t" .b5]⟩]
  | .big =>
    [ ⟨"w2", .rgb565PixelPack, orderMode order, [.lane "t" .r5, .lane "t" .g6, .lane "t" .b5]⟩,
      ⟨"v2", .endiannessSwap16b, none, [.name "w2"]⟩ ]

theorem linesBytesToBytes_eq (v : BitVec 16) (o1 : ComponentOrder) (e1 : Endianness) (o2 : ComponentOrder)
    (e2 : Endianness) : linesBytesToBytes v o1 e1 o2 e2 = linesDecode v o1 e1 ++ linesPackLanes o2 e2 := by
  cases e1 <;> cases e2 <;> rfl

/-- The first half is `decode`: it binds the triple and leaves the names of the second half free. -/
theorem exists_runs_linesDecode (p : BytePair) (order : ComponentOrder) (e : Endianness) :
    ∃ env, Runs [] (linesDecode (busValue p) order e) env ∧
      lookupName env "t" = some (.triple (pixelDecode p order e)) ∧ lookupName env "w2" = none ∧
      lookupName env "v2" = none := by
  cases e with
  | little => exact ⟨_, runs_linesDecode_little p order, rfl, rfl, rfl⟩
  | big => exact ⟨_, runs_linesDecode_big p order, rfl, rfl, rfl⟩

theorem exists_runs_linesPackLanes {env : Env} {t : FieldTriple} (triple : lookupName env "t" = some (.triple t))
    (free_w2 : lookupName env "w2" = none) (free_v2 : lookupName env "v2" = none) (order : ComponentOrder)
    (e : Endianness) :
    ∃ env' v, Runs env (linesPackLanes order e) env' ∧ lookupName env' "v2" = some (.scalar v) ∧
      busBytes (BitVec.ofNat 16 v) = pixelEncode t order e := by
  have lanes : [OutputLane.r5, .g6, .b5].map (fun l => argNumber env (.lane "t" l)) =
      [t.r5.toNat, t.g6.toNat, t.b5.toNat].map .ok := by
    simp [argNumber, triple, laneOf]
  cases e with
  | little =>
    refine ⟨_, _, .cons (.rgb565PixelPack order t.r5 t.g6 t.b5) (lineForm_pixelPack _ _) lanes free_v2 .nil, ?_,
      busBytes_ofNat_toNat _⟩
    rw [lookupName_append, free_v2]
    rfl
  | big =>
    refine ⟨_, _, .cons (.rgb565PixelPack order t.r5 t.g6 t.b5) (lineForm_pixelPack _ _) lanes free_w2
      (.cons (.endiannessSwap16b (pixelPack order t)) rfl ?_ ?_ .nil), ?_, busBytes_ofNat_toNat _⟩
    · simp [Line.numbers, argNumber, lookupName_append, free_w2, valueOf, Value.number]
    · simp [lookupName_append, free_v2]
    · rw [lookupName_append, lookupName_append, free_v2]
      rfl

/-- Settles O44: the names each program binds; the bytes-to-bytes lines are `decode` followed by packing the lanes. -/
theorem pixelExpansions : Obligations.PixelExpansions := by
  unfold Obligations.PixelExpansions
  refine fun b order => ⟨fun p => ?_, fun w => ?_, fun w => ?_, fun t => ?_, fun t => ?_, fun p o2 e1 e2 => ?_⟩
  · obtain ⟨u, run⟩ := runs_linesSwapBytes (busValue p) b
    exact ⟨_, _, run, rfl, busBytes_ofNat_toNat _, swapBytes_eq p⟩
  · obtain ⟨u, run⟩ := runs_linesPixelToRgb888 w order b
    exact ⟨_, run, rfl, rfl, rfl⟩
  · obtain ⟨u, run⟩ := runs_linesPixelToSrgb888 w order b
    exact ⟨_, run, rfl, rfl, rfl⟩
  · obtain ⟨u, run⟩ := runs_linesRgb888ToPixel t order b
    exact ⟨_, run, rfl⟩
  · obtain ⟨u, run⟩ := runs_linesSrgb888ToPixel t order b
    exact ⟨_, run, rfl⟩
  · obtain ⟨env, decodes, triple, free_w2, free_v2⟩ := exists_runs_linesDecode p order e1
    obtain ⟨env', v, packs, bound, bytes⟩ := exists_runs_linesPackLanes triple free_w2 free_v2 o2 e2
    obtain ⟨u, run⟩ := decodes.append packs b
    rw [linesBytesToBytes_eq]
    exact ⟨_, v, run, bound, bytes⟩

/-! ### Component swap (R91, R103) -/

theorem runs_linesSwapComponents (w : Pixel) : Runs [] (linesSwapComponents w)
    [("t", .triple (pixelUnpack .rgb565 w)), ("w2", .scalar (swapComponents w).toNat)] :=
  .cons (.rgb565PixelUnpack .rgb565 w) rfl rfl rfl
    (.cons (.rgb565PixelPack .bgr565 (pixelUnpack .rgb565 w).r5 (pixelUnpack .rgb565 w).g6 (pixelUnpack .rgb565 w).b5)
      rfl rfl rfl .nil)

theorem pixelUnpack_rgb565_swapComponents (w : Pixel) :
    pixelUnpack .rgb565 (swapComponents w) = pixelUnpack .bgr565 w := by
  rw [swapComponents_eq_pack_rgb565, pixelUnpack_pixelPack]

@[simp] theorem swapComponents_swapComponents (w : Pixel) : swapComponents (swapComponents w) = w := by
  rw [swapComponents, pixelUnpack_rgb565_swapComponents, pixelPack_pixelUnpack]

/-- A pixel as a number is the sum of its fields (R34). -/
theorem pixel_toNat (w : Pixel) :
    w.toNat = bitsOf w.toNat 15 11 * 2048 + bitsOf w.toNat 10 5 * 32 + bitsOf w.toNat 4 0 := by
  conv_lhs => rw [← pixelPack_pixelUnpack .rgb565 w]
  rw [pixelPack_toNat, pixelUnpack_r5_toNat, pixelUnpack_g6_toNat, pixelUnpack_b5_toNat]
  rfl

theorem swapComponents_eq_self_iff (w : Pixel) :
    swapComponents w = w ↔ bitsOf w.toNat 4 0 = bitsOf w.toNat 15 11 := by
  have fields := pixel_toNat w
  rw [← BitVec.toNat_inj, swapComponents_toNat]
  omega

/-- Settles O48: the names the lines bind, the laws of U8 and U9 in the two orders, and the two readings of a pair. -/
theorem swapComponentsLaws : Obligations.SwapComponentsLaws := by
  unfold Obligations.SwapComponentsLaws
  refine ⟨fun w => ⟨fun b => ?_, swapComponents_toNat w, swapComponents_eq_pack_rgb565 w,
    (pixelUnpack_rgb565_swapComponents w).symm, swapComponents_swapComponents w, swapComponents_eq_self_iff w,
    fun st => swapComponentsBy_eq st w⟩, fun p => ⟨rfl, ?_⟩⟩
  · obtain ⟨u, run⟩ := runs_linesSwapComponents w b
    exact ⟨_, run, rfl⟩
  · rw [swapComponentsBytes, pixelOfBytes_eq, bytesOfPixel_eq]
    rfl

/-! ### Bytes to bytes (R96) -/

theorem bytesToBytes_self (o : ComponentOrder) (e : Endianness) (p : BytePair) : bytesToBytes o e o e p = p :=
  pixelEncode_pixelDecode p o e

theorem bytesToBytes_of_order_ne {o1 o2 : ComponentOrder} (h : o1 ≠ o2) (e : Endianness) (p : BytePair) :
    bytesToBytes o1 e o2 e p = swapComponentsBytes e p := by
  cases o1 <;> cases o2
  case rgb565.bgr565 => rfl
  case bgr565.rgb565 => rfl
  all_goals exact absurd rfl h

theorem bytesToBytes_reverse (o1 o2 : ComponentOrder) (e1 e2 : Endianness) (p : BytePair) :
    bytesToBytes o2 e2 o1 e1 (bytesToBytes o1 e1 o2 e2 p) = p := by
  rw [bytesToBytes, bytesToBytes, pixelDecode_pixelEncode, pixelEncode_pixelDecode]

/-- Settles O49: what packing in one order does to a triple unpacked in another, and each conversion's inverse. -/
theorem bytesToBytesLaws : Obligations.BytesToBytesLaws := by
  unfold Obligations.BytesToBytesLaws
  refine ⟨swapBytes_eq, bytesToBytes_self, fun o1 o2 e p h => bytesToBytes_of_order_ne h e p, bytesToBytes_reverse,
    fun o1 o2 e1 e2 => ?_⟩
  exact Function.bijective_iff_has_inverse.mpr
    ⟨bytesToBytes o2 e2 o1 e1, bytesToBytes_reverse o1 o2 e1 e2, bytesToBytes_reverse o2 o1 e2 e1⟩

/-! ### The byte forms (R89, R90, R92 to R95) -/

/-- Settles O58: the byte handlings are the two readings of a pair (`pixelOfBytes_eq`, `bytesOfPixel_eq`), and invert
each other around the conversions of pixels. -/
theorem byteFormsOfConversions : Obligations.ByteFormsOfConversions := by
  unfold Obligations.ByteFormsOfConversions
  refine fun order e => ⟨fun p => ?_, fun t => bytesOfPixel_eq e _, fun t => bytesOfPixel_eq e _, fun p => ⟨?_, ?_⟩⟩
  · rw [← pixelOfBytes_eq]
    exact ⟨rfl, rfl⟩
  · rw [rgb888ToBytes, bytesToRgb888, rgb888ToPixel_pixelToRgb888, bytesOfPixel_pixelOfBytes]
  · rw [srgb888ToBytes, bytesToSrgb888, srgb888ToPixel_pixelToSrgb888, bytesOfPixel_pixelOfBytes]

end Sys2Proof.Machine

/-! # Lines of a program

O55, O56 and O57 (rules R46, R47, R99 and R145). A line builds a word exactly if it writes an operation
(`Line.word_eq_ok_iff`), so its word depends on the numbers its arguments stand for and on nothing else; and what it
binds is what the block answers on that word, whatever its state. -/

namespace Sys2Proof.Machine

/-! ### The operation a line writes (R46, R47) -/

theorem Mnemonic.allows_of_modeOf {k : Mnemonic} {mode : Option Mode} {m : Nat} (h : modeOf k mode = some m) :
    k.allows mode := by
  cases k with
  | rgb565UnpackChannel5 | rgb565PixelUnpack | rgb565PixelPack =>
    rcases mode with _ | _ | _ | _ | _ <;> simp [modeOf, Mnemonic.allows] at h ⊢
  | _ =>
    cases mode with
    | none => rfl
    | some d => cases h

/-- A mnemonic of one operand, with a number that fits the port, writes an operation. -/
theorem exists_lineForm_of_lane {k : Mnemonic} {mode mode' : Option Mode} {ns : List Nat} {width low : Nat}
    (op : BitVec width → Instr) (form : ∀ v, lineForm (op v) = (k, mode', [v.toNat])) (hmode : mode = mode')
    (fits : List.Forall₂ (fun n (lane : Nat × Nat) => n < 2 ^ lane.1) ns [(width, low)]) :
    ∃ i, lineForm i = (k, mode, ns) := by
  obtain _ | ⟨bound, _ | _⟩ := fits
  exact ⟨op (.ofNatLT _ bound), by rw [form, hmode, BitVec.toNat_ofNatLT]⟩

/-- U9 writes an operation in either order, with three numbers that fit their ports. -/
theorem exists_lineForm_pixelPack {mode : Option Mode} {ns : List Nat} (order : ComponentOrder)
    (hmode : mode = orderMode order)
    (fits : List.Forall₂ (fun n (lane : Nat × Nat) => n < 2 ^ lane.1) ns (Mnemonic.lanes .rgb565PixelPack)) :
    ∃ i, lineForm i = (.rgb565PixelPack, mode, ns) := by
  obtain _ | ⟨r, _ | ⟨g, _ | ⟨b, _ | _⟩⟩⟩ := fits
  have form := lineForm_pixelPack order ⟨.ofNatLT _ r, .ofNatLT _ g, .ofNatLT _ b⟩
  rw [← hmode] at form
  exact ⟨_, form⟩

/-- With an allowed mode and numbers that fit their ports there is an operation that a line writes (R46). -/
theorem exists_lineForm {k : Mnemonic} {mode : Option Mode} {ns : List Nat} (allowed : k.allows mode)
    (fits : List.Forall₂ (fun n (lane : Nat × Nat) => n < 2 ^ lane.1) ns k.lanes) :
    ∃ i, lineForm i = (k, mode, ns) := by
  cases k with
  | rgb565UnpackChannel5 =>
    rcases allowed with lo | hi
    · exact exists_lineForm_of_lane (.rgb565UnpackChannel5 .lo) (fun _ => rfl) lo fits
    · exact exists_lineForm_of_lane (.rgb565UnpackChannel5 .hi) (fun _ => rfl) hi fits
  | rgb565PixelUnpack =>
    rcases allowed with rgb | bgr
    · exact exists_lineForm_of_lane (.rgb565PixelUnpack .rgb565) (fun _ => rfl) rgb fits
    · exact exists_lineForm_of_lane (.rgb565PixelUnpack .bgr565) (fun _ => rfl) bgr fits
  | rgb565PixelPack =>
    rcases allowed with rgb | bgr
    · exact exists_lineForm_pixelPack .rgb565 rgb fits
    · exact exists_lineForm_pixelPack .bgr565 bgr fits
  | rgb565UnpackChannel6 => exact exists_lineForm_of_lane .rgb565UnpackChannel6 (fun _ => rfl) allowed fits
  | channel5ToChannel8Linear => exact exists_lineForm_of_lane .channel5ToChannel8Linear (fun _ => rfl) allowed fits
  | channel6ToChannel8Linear => exact exists_lineForm_of_lane .channel6ToChannel8Linear (fun _ => rfl) allowed fits
  | channel8ToChannel5Linear => exact exists_lineForm_of_lane .channel8ToChannel5Linear (fun _ => rfl) allowed fits
  | channel8ToChannel6Linear => exact exists_lineForm_of_lane .channel8ToChannel6Linear (fun _ => rfl) allowed fits
  | srgbGammaExpandLut => exact exists_lineForm_of_lane .srgbGammaExpandLut (fun _ => rfl) allowed fits
  | srgbGammaCompressLut => exact exists_lineForm_of_lane .srgbGammaCompressLut (fun _ => rfl) allowed fits
  | endiannessSwap16b => exact exists_lineForm_of_lane .endiannessSwap16b (fun _ => rfl) allowed fits

/-- What a line that builds a word has: an allowed mode, and numbers that fit their ports. -/
theorem Line.allowed_and_fits_of_word {env : Env} {l : Line} {w : OpWord} (h : l.word env = .ok w) :
    l.mnemonic.allows l.mode ∧ ∃ ns, l.numbers env ns ∧
      List.Forall₂ (fun n (lane : Nat × Nat) => n < 2 ^ lane.1) ns l.mnemonic.lanes := by
  unfold Line.word at h
  split at h
  · cases h
  · rename_i m mode
    split at h
    · cases h
    · rename_i a operand
      obtain ⟨ns, numbers, fits, -⟩ := operandOf_eq_ok.mp operand
      exact ⟨Mnemonic.allows_of_modeOf mode, ns, numbers, fits⟩

/-- A line builds a word exactly if it writes an operation, and then the operation's word (R47). -/
theorem Line.word_eq_ok_iff {env : Env} {l : Line} {w : OpWord} :
    l.word env = .ok w ↔ ∃ i ns, lineForm i = (l.mnemonic, l.mode, ns) ∧ l.numbers env ns ∧ w = encode i := by
  constructor
  · intro h
    obtain ⟨allowed, ns, numbers, fits⟩ := Line.allowed_and_fits_of_word h
    obtain ⟨i, form⟩ := exists_lineForm allowed fits
    exact ⟨i, ns, form, numbers, Except.ok.inj (h.symm.trans (Line.word_of_form form numbers))⟩
  · rintro ⟨i, ns, form, numbers, rfl⟩
    exact Line.word_of_form form numbers

/-- Settles O55: a line's word is the encoding of the operation it writes (`Line.word_eq_ok_iff`), which there is when
the mode and the arguments are as R46 asks (`exists_lineForm`), and which the word decodes to. -/
theorem linesBuildAdmittedWords : Obligations.LinesBuildAdmittedWords := by
  unfold Obligations.LinesBuildAdmittedWords
  refine ⟨fun env l w => Line.word_eq_ok_iff, fun env l ns allowed numbers fits => ?_, fun env l w h => ?_⟩
  · obtain ⟨i, form⟩ := exists_lineForm allowed fits
    exact ⟨i, form, Line.word_of_form form numbers⟩
  · obtain ⟨i, ns, form, -, rfl⟩ := Line.word_eq_ok_iff.mp h
    have row := row_lineForm i
    rw [form] at row
    exact ⟨i, decode_encode i, row.symm⟩

/-! ### What a line binds (R46, R18) -/

theorem lookupName_append_of_ne {k x : String} (h : k ≠ x) (env : Env) (v : Value) :
    lookupName (env ++ [(k, v)]) x = lookupName env x := by
  rw [lookupName_append, if_neg h, Option.or_none]

theorem lookupName_append_of_free {env : Env} {x : String} (free : lookupName env x = none) (v : Value) :
    lookupName (env ++ [(x, v)]) x = some v := by
  rw [lookupName_append, free, if_pos rfl, Option.none_or]

theorem lookupName_append_of_bound {env : Env} {x : String} {v : Value} (bound : lookupName env x = some v) (k : String)
    (u : Value) : lookupName (env ++ [(k, u)]) x = some v := by
  rw [lookupName_append, bound, Option.some_or]

/-- A line with a value has the same bindings with the block in any other state (R18). -/
theorem evalLine_of_block {h : HostState} {l : Line} {w : OpWord} {t : State} (free : lookupName h.env l.name = none)
    (word : l.word h.env = .ok w) (evaluated : step (h.block.present w) = .next t) (b : State) :
    evalLine { env := h.env, block := b } l =
      .ok { env := h.env ++ [(l.name, boundValue l.mnemonic t.y)], block := t } :=
  evalLine_ok (h := { env := h.env, block := b }) free word ((step_eq_of_opw_eq rfl).trans evaluated)

/-- Settles O56: the one binding a line adds, for a word that does not depend on the block. -/
theorem lineBindsOneName : Obligations.LineBindsOneName := by
  unfold Obligations.LineBindsOneName
  intro h h' l line
  obtain ⟨w, t, free, word, evaluated, rfl⟩ := evalLine_eq_ok line
  exact ⟨free, ⟨_, lookupName_append_of_free free _⟩, fun x hx => lookupName_append_of_ne hx.symm _ _,
    fun b => ⟨t, evalLine_of_block free word evaluated b⟩⟩

/-! ### Exchanging neighbouring lines (R145, R99) -/

/-- Two bindings of different names may be exchanged. -/
theorem lookupName_append_comm {j k : String} (ne : j ≠ k) (env : Env) (u v : Value) (x : String) :
    lookupName (env ++ [(j, u)] ++ [(k, v)]) x = lookupName (env ++ [(k, v)] ++ [(j, u)]) x := by
  rcases eq_or_ne j x with rfl | hj
  · rw [lookupName_append_of_ne ne.symm, lookupName_append, lookupName_append, lookupName_append_of_ne ne.symm]
  · rw [lookupName_append, lookupName_append_of_ne hj, lookupName_append_of_ne hj, lookupName_append]

/-- An argument that stands for a number stands for it after one more binding, since a name is bound once. -/
theorem argNumber_append {env : Env} {a : Arg} {n : Nat} (h : argNumber env a = .ok n) (k : String) (v : Value) :
    argNumber (env ++ [(k, v)]) a = .ok n := by
  cases a with
  | literal c => exact h
  | name x | lane x l =>
    simp only [argNumber] at h ⊢
    cases look : lookupName env x with
    | none =>
      rw [look] at h
      cases h
    | some u =>
      rw [look] at h
      rwa [lookupName_append_of_bound look]

/-- An argument that does not use a name stands for the same number without its binding. -/
theorem argNumber_append_of_unused {a : Arg} {k : String} (unused : a.mentions k = false) (env : Env) (v : Value) :
    argNumber (env ++ [(k, v)]) a = argNumber env a := by
  cases a with
  | literal c => rfl
  | name x | lane x l =>
    have ne : x ≠ k := beq_eq_false_iff_ne.mp unused
    simp only [argNumber, lookupName_append_of_ne ne.symm]

theorem Line.numbers_append {env : Env} {l : Line} {ns : List Nat} (numbers : l.numbers env ns) (k : String)
    (v : Value) : l.numbers (env ++ [(k, v)]) ns := by
  refine (List.map_congr_left fun a mem => ?_).trans numbers
  have mapped : argNumber env a ∈ ns.map .ok := numbers ▸ List.mem_map_of_mem mem
  obtain ⟨n, -, value⟩ := List.mem_map.mp mapped
  rw [argNumber_append value.symm, value]

theorem Line.numbers_of_append {env : Env} {l : Line} {ns : List Nat} {k : String} {v : Value}
    (unused : l.mentions k = false) (numbers : l.numbers (env ++ [(k, v)]) ns) : l.numbers env ns := by
  refine (List.map_congr_left fun a mem => ?_).trans numbers
  have unused_a : a.mentions k = false := Bool.eq_false_iff.mpr (List.any_eq_false.mp unused a mem)
  exact (argNumber_append_of_unused unused_a env v).symm

theorem Line.word_append {env : Env} {l : Line} {w : OpWord} (word : l.word env = .ok w) (k : String) (v : Value) :
    l.word (env ++ [(k, v)]) = .ok w := by
  obtain ⟨i, ns, form, numbers, rfl⟩ := Line.word_eq_ok_iff.mp word
  exact Line.word_of_form form (Line.numbers_append numbers k v)

theorem Line.word_of_append {env : Env} {l : Line} {w : OpWord} {k : String} {v : Value} (unused : l.mentions k = false)
    (word : l.word (env ++ [(k, v)]) = .ok w) : l.word env = .ok w := by
  obtain ⟨i, ns, form, numbers, rfl⟩ := Line.word_eq_ok_iff.mp word
  exact Line.word_of_form form (Line.numbers_of_append unused numbers)

theorem runLines_pair_eq_ok {h a : HostState} {l m : Line} :
    runLines h [l, m] = .ok a ↔ ∃ h', evalLine h l = .ok h' ∧ evalLine h' m = .ok a := by
  simp only [runLines]
  cases evalLine h l with
  | error e => simp
  | ok h' =>
    cases line : evalLine h' m <;> simp [line]

/-- Settles O57: neither line's word changes, so each binds the same value, and the two bindings are of different
names. -/
theorem independentLinesCommute : Obligations.IndependentLinesCommute := by
  unfold Obligations.IndependentLinesCommute
  intro h a l m unused run
  obtain ⟨h', line_l, line_m⟩ := runLines_pair_eq_ok.mp run
  obtain ⟨w, t, free_l, word_l, evaluated_l, rfl⟩ := evalLine_eq_ok line_l
  obtain ⟨v, u, free_m, word_m, evaluated_m, rfl⟩ := evalLine_eq_ok line_m
  have ne : l.name ≠ m.name := by
    intro same
    rw [← same, lookupName_append_of_free free_l] at free_m
    cases free_m
  rw [lookupName_append_of_ne ne] at free_m
  have first := evalLine_of_block (h := { env := h.env, block := t }) free_m (Line.word_of_append unused word_m)
    evaluated_m h.block
  have second := evalLine_of_block
    (h := { env := h.env ++ [(m.name, boundValue m.mnemonic u.y)], block := h.block })
    ((lookupName_append_of_ne ne.symm _ _).trans free_l) (Line.word_append word_l _ _) evaluated_l u
  refine ⟨_, runLines_pair_eq_ok.mpr ⟨_, first, second⟩, fun x => ?_⟩
  exact (lookupName_append_comm ne _ _ _ x).symm

end Sys2Proof.Machine
